-- ==== Sys2Proof/Word.lean ====
section
/-! DEFINITION. The words of the HL416: bytes, 16-bit quantities, fine ticks, station, slot and resource numbers, and their
plainest arithmetic (spec/00_scope.md, Conventions). -/

namespace Sys2Proof

/-- One byte of a record, view, frame payload or SPI transaction. -/
abbrev Byte := BitVec 8

/-- A 16-bit quantity: grant counter, grant number, term, digest, sequence number, incarnation. -/
abbrev Word16 := BitVec 16

/-- A value of the 32-bit fine-tick counter: a time, a stamp or a deadline (R59, R62). -/
abbrev Tick := BitVec 32

/-- A station number, 0 to 15. -/
abbrev Station := Fin 16

/-- A resource number as records and frames carry it: a whole byte, so that a number above 63 can be seen (R190, R195). -/
abbrev ResNo := BitVec 8

/-- A level of the group line: `true` is recessive (binary 1), `false` dominant (binary 0). -/
abbrev Level := Bool

/-- `n` LTU in fine ticks: 64 to the LTU, exactly (R61). -/
def ltu (n : Nat) : Tick := BitVec.ofNat 32 (64 * n)

/-- A 16-bit count that saturates at 65535 (R31, R164). -/
def satInc16 (c : Word16) : Word16 := if c = 0xFFFF#16 then c else c + 1

/-- The station number in the low four bits of a byte. -/
def stationOf (b : Byte) : Station := ⟨b.toNat % 16, Nat.mod_lt _ (by decide)⟩

/-- A station number as a byte. -/
def stationByte (s : Station) : Byte := BitVec.ofNat 8 s.val

end Sys2Proof
end

