-- ==== Sys2Proof/Syntax.lean ====
section
/-! DEFINITION. The commands of the block: one constructor for each row of spec/opcode_table.json, in the table's order of
families. The table gives no fields; the operands are what the rule of each row needs from outside the part (log 3). -/

namespace Sys2Proof

/-- What CS_N and SCK do at the Host Port (R166): CS_N falls, one byte is clocked in full while another is clocked out, CS_N rises. -/
inductive SpiEdge where
  | csFalls
  | byte (mosi : Byte)
  | csRises
  deriving DecidableEq, Repr

/-- What is read of a frame that is vetoed: the levels since the last line command to the end of the body, and the two levels of the check window, of
which one at least is dominant (R155). -/
structure VetoedRead where
  body : List Level
  first : Level
  second : Level
  deriving DecidableEq, Repr

/-- A command of the HL416. -/
inductive Instr where
  /-- An edge of RST_N: it falls where it was high, and returns high where it was low (R186). -/
  | deviceReset
  /-- The end of a fine tick (R60). -/
  | fineTick
  /-- SPI transactions, edge by edge: the first byte after CS_N has fallen is the access byte, and it names the row's access kind (R166). -/
  | putCommand (edge : SpiEdge)
  | takeEvent (edge : SpiEdge)
  | readStatus (edge : SpiEdge)
  | readLease (edge : SpiEdge)
  | readRoster (edge : SpiEdge)
  | portReset (edge : SpiEdge)
  /-- A transaction whose access byte, this one, names no access kind. -/
  | voidAccess (access : Byte) (edge : SpiEdge)
  /-- The Command Engine takes the oldest record, which it finds bad (R171). -/
  | badCommandRecord
  /-- The Command Engine takes the oldest record, of this kind (R170). -/
  | configure
  | join
  | leave
  | acquire
  | release
  | renew
  | cancel
  /-- An idle report at which the Transmit Queue offers its candidate (R133). -/
  | frameStart
  /-- Arbitration is lost at a bit of the key as sent; `levels` are the levels read since the last line command, those of the key before that bit, an
  inserted bit among them included (R149, R152, R153). -/
  | arbitrationLoss (levels : List Level)
  /-- The check window closes; `levels` are the levels read since the last line command, to the end of the body (R155). -/
  | frameAccepted (levels : List Level)
  | frameVetoed (read : VetoedRead)
  /-- `levels` as above, to the seventh recessive bit or to the end of the body (R157). -/
  | missedFrame (levels : List Level)
  /-- The oldest frame of the delivery order, of this kind, is handed inward and applied (R158, R7). -/
  | claimFrame
  | dropFrame
  | extendFrame
  | withdrawFrame
  | revokeFrame
  | quitFrame
  | departFrame
  | foundFrame
  | applyFrame
  | admitFrame
  | declineFrame
  | snapshotFrame
  | snapEndFrame
  | beaconFrame
  /-- Expiries (R62). -/
  | replicaDeadline (resource : Fin 64) (holder : Station)
  | selfExpiry (slot : Fin 8)
  | presenceDeadline (station : Station)
  | beaconSchedule
  | listenWindow
  | foundingPeriod
  | joinAttemptTimer
  | joinBackoff
  | roundEnd
  /-- A recessive bit is read with no frame being decoded: a bit of an end field, or of SEEKING_IDLE. The line is idle once the recessive run is 11
  (R148, R156). -/
  | lineIdle
  /-- A dominant bit is read that this station did not drive, with no frame being decoded (R148, R151). -/
  | startBitRead
  deriving DecidableEq, Repr

end Sys2Proof
end

