-- ==== Sys2Proof/Config.lean ====
section
/-! DEFINITION. The numbers the manual fixes for every HL416 (spec/00_scope.md, Numbers used throughout). The host's own
configuration is state (the configuration record, R98), not a constant. And the one free value: the choices that R197 leaves open. -/

namespace Sys2Proof.Config

/-- Command Queue places (R169). -/
def commandQueueSize : Nat := 4
/-- Event Queue places (R174). -/
def eventQueueSize : Nat := 32
/-- The largest dropped-event count and outlier count (R175, R68). -/
def byteCountMax : Nat := 255
/-- Wait Pool entries (R4). -/
def waitPoolSize : Nat := 128
/-- Holder plus wait entries per station (R5). -/
def stationEntryMax : Nat := 8
/-- Catch-up Queue frames (R114). -/
def catchupSize : Nat := 48
/-- Join attempts counted toward the limit (R121, R122). -/
def joinAttempts : Nat := 8
/-- Member entries of one SNAPSHOT part (R109). -/
def membersPerPart : Nat := 4
/-- Mute threshold of the own-frame veto count (R160). -/
def ownVetoThreshold : Nat := 16
/-- Mute threshold of the issued-veto count (R161). -/
def issuedVetoThreshold : Nat := 32
/-- The recessive run at which the line is idle (R148). -/
def idleRun : Nat := 11
/-- Bits of the end field (R156). -/
def endField : Nat := 8
/-- Equal consecutive bits after which a bit is inserted (R149). -/
def insertAfter : Nat := 6
/-- Recessive bits in a row that end a receiver's decode (R157). -/
def missedRun : Nat := 7
/-- Reference cycles of an untrimmed fine tick (R60). -/
def tickCycles : Nat := 256
/-- Trim range (R71). -/
def trimMin : Int := -512
/-- Trim range (R71). -/
def trimMax : Int := 511
/-- The largest correction at a round end (R71). -/
def correctionMax : Int := 16
/-- Free value: for the events still to be raised after a device reset, in order, whether each is appended later than in the event that raises it; at
once beyond its end. R197 allows either for each event, and nothing is known of this list (log 7). -/
opaque appendedLater : List Bool

end Sys2Proof.Config
end

