-- ==== Sys2Proof/Machine/State.lean ====
section
/-! DEFINITION. The state of one HL416, block by block, as plain data; its values after a device reset; the reasons a step
can stop. Each block's structure follows the table of state in the chapter that owns the block. -/

namespace Sys2Proof.Machine

/-! ## Codes shared by several blocks (spec/09 9.1) -/

/-- Station states (R97). -/
inductive StationState where
  | unconfigured | offline | listen | founding | joining | catchup | online | mute | leaving
  deriving DecidableEq, Repr

/-- Timebase states (R72). -/
inductive TimebaseState where
  | free | tracking | locked
  deriving DecidableEq, Repr

/-- The mode of a claim (R4, R13). -/
inductive Mode where
  | exclusive | shared
  deriving DecidableEq, Repr

/-! ## Frames (R193, R194) -/

/-- The fourteen frame kinds (R193). -/
inductive FrameKind where
  | found | apply | quit | depart | beacon | admitJoiner | decline | snapshot | snapEnd | revoke | claim | drop | extend | withdraw
  deriving DecidableEq, Repr

/-- The fields of a BEACON (R194). The two state fields are the codes as carried, which may have no meaning (R195). -/
structure BeaconBody where
  number : Byte
  stamp : Tick
  stationState : BitVec 4
  timebaseState : BitVec 2
  digest : Word16
  profile : Word16
  deriving DecidableEq, Repr

/-- A member entry of a SNAPSHOT part (R194), its codes as carried. -/
structure Member where
  holder : Bool
  mode : BitVec 2
  station : Station
  grant : Word16
  term : Word16
  deriving DecidableEq, Repr

/-- One part of a capture: a SNAPSHOT's fields after the joiner (R110, R194). -/
structure SnapshotPart where
  index : Byte
  resource : ResNo
  state : BitVec 2
  counter : Word16
  members : List Member
  deriving DecidableEq, Repr

/-- A DECLINE's fields (R194), the reason as carried. -/
structure DeclineBody where
  joiner : Station
  incarnation : Word16
  reason : Byte
  deriving DecidableEq, Repr

/-- A frame's kind and payload fields (R194). Reserved bits carry nothing (R195). `states` of an ADMIT holds two bits per
station, station 0 in the top two. -/
inductive Frame where
  | found (incarnation profile : Word16)
  | apply (incarnation profile : Word16)
  | quit
  | depart (station : Station)
  | beacon (body : BeaconBody)
  | admitJoiner (joiner : Station) (incarnation capture : Word16) (parts : Byte) (states : BitVec 32)
  | decline (body : DeclineBody)
  | snapshot (joiner : Station) (part : SnapshotPart)
  | snapEnd (joiner : Station) (digest : Word16)
  | revoke (resource : ResNo) (holder : Station) (grant : Word16)
  | claim (resource : ResNo) (noWait : Bool) (mode : BitVec 2) (term : Word16)
  | drop (resource : ResNo) (grant : Word16)
  | extend (resource : ResNo) (grant term : Word16)
  | withdraw (resource : ResNo)
  deriving DecidableEq, Repr

/-- An accepted frame on its way inward: its sender (the station of its key), its start-bit stamp, and whether this station
was a sender of it (R153, R158). -/
structure Delivered where
  sender : Station
  frame : Frame
  stamp : Tick
  own : Bool
  deriving DecidableEq, Repr

/-! ## Line Controller (spec/07) -/

/-- Line phases (spec/07). -/
inductive LinePhase where
  | silent | seekingIdle | idle | inFrame
  deriving DecidableEq, Repr

/-- The faults a station decoding a frame can find in what it decodes (R154), and the readback fault that a sender has met in its key before it loses
arbitration (R153); of any other sender's it is seen by comparing levels. -/
inductive LineFault where
  | insertedBit | unknownKind | badLength | crcMismatch | readback
  deriving DecidableEq, Repr

/-- The decode of the body so far (R149, R150): `bits` are the bits with inserted bits removed, latest first, the start bit
included; `payloadLen` is the located payload length once the length field is decoded. -/
structure Rx where
  bits : List Level
  runLevel : Level
  runLen : Nat
  recessive : Nat
  crc : Word16
  payloadLen : Option Nat
  fault : Option LineFault
  deriving DecidableEq, Repr

/-- A sender still has levels to send, inserted bits included; any other station is a receiver (R151). -/
inductive Role where
  | sender (toSend : List Level)
  | receiver
  deriving DecidableEq, Repr

/-- The decode of the frame on the line, with the stamp latched at its start bit (R64). -/
structure FrameDecode where
  role : Role
  stamp : Tick
  rx : Rx
  deriving DecidableEq, Repr

/-- The Line Controller's state (spec/07). In phase `inFrame` with no decode the line is in a frame's end field, of which `endBits` bits are
still to come (R156). While a frame is decoded the recessive run stands as at the last line command. `vetoDriven` is the model's record of the
level driven in the last check window (R154). -/
structure LineController where
  phase : LinePhase
  recessiveRun : Nat
  endBits : Nat
  decode : Option FrameDecode
  delivery : List Delivered
  ownVetoes : Nat
  issuedVetoes : Nat
  arbitrationLosses : Word16
  rate : Option (BitVec 2)
  rateChange : Bool
  vetoDriven : Bool
  deriving DecidableEq, Repr

/-! ## Transmit Queue (spec/06) -/

/-- What identifies a frame for withdrawal and refresh (R129). -/
inductive FrameId where
  | claim (resource : ResNo)
  | drop (resource : ResNo)
  | extend (resource : ResNo)
  | withdraw (resource : ResNo)
  | revoke (resource : ResNo) (holder : Station) (grant : Word16)
  | depart (station : Station)
  | found
  | apply
  | quit
  | beacon
  | stream
  | decline (joiner : Station)
  deriving DecidableEq, Repr

/-- An entry of the Transmit Queue in use (R129). Its place in the list is its insertion order. -/
structure TxEntry where
  frame : Frame
  inFlight : Bool
  withdrawn : Bool
  returnNotice : Bool
  orphan : Bool
  deriving DecidableEq, Repr

/-- The Transmit Queue (R129, R140, R134). -/
structure TransmitQueue where
  entries : List TxEntry
  pendingDeclines : List DeclineBody
  awaiting : List FrameId
  deriving DecidableEq, Repr

/-! ## Replica Engine (spec/01) -/

/-- Resource entry states (R2). -/
inductive ResourceState where
  | free | exclusive | shared
  deriving DecidableEq, Repr

/-- Revocation states of a peer's holder entry (R23). -/
inductive RevocationState where
  | watching | marked | queued
  deriving DecidableEq, Repr

/-- A holder entry (R3). This station's own entries have no revocation state. -/
structure Holder where
  station : Station
  grant : Word16
  term : Word16
  deadline : Tick
  revocation : Option RevocationState
  deriving DecidableEq, Repr

/-- A wait entry (R4). -/
structure Waiter where
  station : Station
  mode : Mode
  term : Word16
  deriving DecidableEq, Repr

/-- A resource entry (R2). -/
structure ResourceEntry where
  state : ResourceState
  counter : Word16
  holders : List Holder
  waiters : List Waiter
  deriving DecidableEq, Repr

/-- A resource entry after a device reset or a station clear (R32). -/
def ResourceEntry.clear : ResourceEntry := { state := .free, counter := 0, holders := [], waiters := [] }

/-- The replica (spec/01): live or not, the Lease Table, the free Wait Pool entries, the station entry counts, the line
sequence number and the stale/invalid frame count. -/
structure Replica where
  live : Bool
  table : Vector ResourceEntry 64
  poolFree : Nat
  counts : Vector Nat 16
  seq : Word16
  stale : Word16
  deriving DecidableEq, Repr

/-- The values of a device reset and of a station clear (R32, R33). -/
def Replica.clear : Replica :=
  { live := false
    table := Vector.replicate 64 ResourceEntry.clear
    poolFree := Config.waitPoolSize
    counts := Vector.replicate 16 0
    seq := 0
    stale := 0 }

/-! ## Claim Manager (spec/02) -/

/-- Claim slot states (R34). -/
inductive SlotState where
  | empty | sending | waiting | held | renewing | releasing | withdrawing | lapsed | ending
  deriving DecidableEq, Repr

/-- Commands a slot can have pending (R34). -/
inductive PendingKind where
  | renew | release | cancel
  deriving DecidableEq, Repr

/-- Kinds of a slot's frame (R34). -/
inductive LeaseKind where
  | claim | extend | drop | withdraw
  deriving DecidableEq, Repr

/-- The frame marker (R34). -/
structure FrameMarker where
  kind : LeaseKind
  withdrawn : Bool
  dropFollows : Bool
  deriving DecidableEq, Repr

/-- Answers that can follow in ENDING (R56). -/
inductive FollowingAnswer where
  | renewLateRevoked | releasedRevokedFirst | cancelDoneAfterGrant
  deriving DecidableEq, Repr

/-- A claim slot (R34). In EMPTY every field but the state is clear. -/
structure Slot where
  state : SlotState
  resource : ResNo
  term : Word16
  tag : Byte
  command : Option (PendingKind × Byte)
  grant : Option Word16
  deadline : Option Tick
  marker : Option FrameMarker
  answer : Option FollowingAnswer
  deriving DecidableEq, Repr

/-- The EMPTY slot (R34). -/
def Slot.clear : Slot :=
  { state := .empty, resource := 0, term := 0, tag := 0, command := none, grant := none, deadline := none, marker := none, answer := none }

/-! ## Membership Unit (spec/04, spec/05) -/

/-- Roster entry states (R79). -/
inductive RosterState where
  | absent | joining | online
  deriving DecidableEq, Repr

/-- A beacon record (R66). -/
structure BeaconRecord where
  number : Byte
  carried : Tick
  received : Tick
  deriving DecidableEq, Repr

/-- A roster entry (R79). -/
structure RosterEntry where
  state : RosterState
  incarnation : Option Word16
  beacon : Option BeaconRecord
  reportedState : Option StationState
  reportedTimebase : Option TimebaseState
  outliers : Nat
  lastHeard : Option Tick
  presence : Option Tick
  departQueued : Bool
  divergence : Bool
  deriving DecidableEq, Repr

/-- A roster entry after a device reset (R79). -/
def RosterEntry.clear : RosterEntry :=
  { state := .absent, incarnation := none, beacon := none, reportedState := none, reportedTimebase := none, outliers := 0,
    lastHeard := none, presence := none, departQueued := false, divergence := false }

/-- The own membership frames (R97). -/
inductive OwnKind where
  | found | apply | quit
  deriving DecidableEq, Repr

/-- The record of the own membership frame in the Transmit Queue (R97). -/
structure OwnFrame where
  kind : OwnKind
  withdrawn : Bool
  next : Option OwnKind
  deriving DecidableEq, Repr

/-- Reasons for a failed attempt (R121). -/
inductive FailReason where
  | timeout | check | catchupFull | admitterLeft
  deriving DecidableEq, Repr

/-- Phases of a join attempt (section 5.6); CLOSING keeps the reason that JOIN_RETRY will carry (R121). -/
inductive AttemptPhase where
  | awaiting | collecting | closing (reason : FailReason)
  deriving DecidableEq, Repr

/-- The admission part of the join attempt record (R116). -/
structure AdmissionPart where
  admitter : Station
  capture : Word16
  parts : Nat
  next : Nat
  deriving DecidableEq, Repr

/-- The join attempt record (R113). -/
structure Attempt where
  stamp : Tick
  accepted : Word16
  catchup : List Delivered
  admission : Option AdmissionPart
  phase : AttemptPhase
  deriving DecidableEq, Repr

/-- The admission record when OPEN (R107). -/
structure Admission where
  joiner : Station
  incarnation : Word16
  admitter : Station
  capture : Word16
  deriving DecidableEq, Repr

/-- A holder as a snapshot carries it (R109, R119). -/
structure SnapHolder where
  station : Station
  grant : Word16
  remaining : Word16
  deriving DecidableEq, Repr

/-- A resource entry being rebuilt from a snapshot (R117). -/
structure SnapEntry where
  state : ResourceState
  counter : Word16
  holders : List SnapHolder
  waiters : List Waiter
  deriving DecidableEq, Repr

/-- The values of a station clear (R116). -/
def SnapEntry.clear : SnapEntry := { state := .free, counter := 0, holders := [], waiters := [] }

/-- What an admitter's Snapshot Buffer holds (R109, R110): the joiner, the parts, the digest of the captured table, the roster states after the
APPLY, and how many parts have been handed to the Transmit Queue. -/
structure Capture where
  joiner : Station
  parts : List SnapshotPart
  digest : Word16
  states : BitVec 32
  sent : Nat
  deriving DecidableEq, Repr

/-- What a joiner's Snapshot Buffer holds: the table being rebuilt, and the resource of the last part loaded (R117). -/
structure Rebuild where
  table : Vector SnapEntry 64
  last : Option (Fin 64)
  deriving DecidableEq, Repr

/-- The Snapshot Buffer (spec/05). -/
inductive SnapshotBuffer where
  | empty
  | capture (c : Capture)
  | rebuild (r : Rebuild)
  deriving DecidableEq, Repr

/-- The Membership Unit's state (R97, R79, R82, R107, section 5.6). `departEvicts` records that MUTE or LEAVING was entered from a
state in which a DEPART naming this station evicts it, or that its own APPLY has been accepted in LEAVING (R93). -/
structure Membership where
  state : StationState
  incarnationCounter : Word16
  incarnation : Option Word16
  joinTag : Option Byte
  leaveTag : Option Byte
  failures : Nat
  own : Option OwnFrame
  orphanNote : Option OwnKind
  attempt : Option Attempt
  abandoning : Bool
  listenWindow : Option Tick
  foundingPeriod : Option Tick
  joinTimer : Option Tick
  backoff : Option Tick
  departEvicts : Bool
  rosterLive : Bool
  roster : Vector RosterEntry 16
  beaconCounter : Byte
  beaconDeadline : Option Tick
  beaconPending : Bool
  admission : Option Admission
  snapshot : SnapshotBuffer
  deriving DecidableEq, Repr

/-! ## Timebase (spec/03) -/

/-- The Timebase's state (spec/03). `sum` is in 1/256 of a step (R68); `tickCycles` is the length of the fine tick in progress (R60). -/
structure Timebase where
  counter : Tick
  trim : Int
  residue : Int
  tickCycles : Nat
  sum : Int
  count : Nat
  roundDeadline : Option Tick
  quiet : Bool
  state : TimebaseState
  deriving DecidableEq, Repr

/-! ## Command Engine and Host Port (spec/08) -/

/-- The configuration record (R98, R188), with the profile digest (R99). The resource count is kept less 1, as it is carried. -/
structure ConfigRecord where
  station : Station
  rate : BitVec 2
  beaconPeriod : Byte
  misses : BitVec 3
  guard : Byte
  lastResource : BitVec 6
  groupKey : Byte
  profile : Word16
  deriving DecidableEq, Repr

/-- A command record: eight bytes (R188). -/
structure CommandRecord where
  kind : Byte
  tag : Byte
  p1 : Byte
  p2 : Byte
  p3 : Byte
  p4 : Byte
  p5 : Byte
  check : Byte
  deriving DecidableEq, Repr

/-- Event kinds (R189). -/
inductive EventKind where
  | configured | refused | granted | queued | denied | cancelled | cancelDone | released | renewed | renewLate | lost
  | joined | joinFailed | joinRetry | left | evicted | peerJoined | peerLeft | muted | divergence | timebase | overrun | portReset
  deriving DecidableEq, Repr

/-- An event record (R178, R189), without its check byte, which the part computes when the record is clocked out. -/
structure EventRecord where
  kind : EventKind
  tag : Byte
  subject : Byte
  grant : Word16
  detail : Byte
  count : Byte
  deriving DecidableEq, Repr

/-- How a transaction stands while CS_N is low (R167, R186): taken by the port, cut off by a fall of RST_N, or void because CS_N fell while RST_N
was low. -/
inductive Standing where
  | taken | cutOff | void
  deriving DecidableEq, Repr

/-- The transaction while CS_N is low (R166): the port byte latched when CS_N fell; the access byte once clocked; the bytes clocked in after it;
what is latched to be clocked out next; whether a place of the Command Queue is held for it (R168) and whether it clocks out a record that leaves the
Event Queue (R177); the bytes clocked out. -/
structure Transaction where
  standing : Standing
  portByte : Byte
  access : Option Byte
  mosi : List Byte
  answer : List Byte
  place : Bool
  record : Bool
  sdo : List Byte
  deriving DecidableEq, Repr

/-- The Host Port's state (spec/08). `attnN` is the level of ATTN_N: `false` is low, asserted; `rstN` is the level of RST_N. CS_N is low exactly while
there is a transaction. `raised` holds the events raised and not yet appended, oldest first (R174, R197). `later` is the model's own: for each event
still to be raised, whether it is appended later than in the event that raises it, a choice that R197 leaves open and that no rule sets: a free value
(log 7). -/
structure HostPort where
  commands : List CommandRecord
  events : List EventRecord
  dropped : Nat
  attnN : Bool
  rstN : Bool
  transaction : Option Transaction
  raised : List EventRecord
  later : List Bool
  deriving DecidableEq, Repr

/-! ## The machine -/

/-- The whole state: the waiting commands, and the state of each block. -/
structure State where
  pending : List Instr
  line : LineController
  tx : TransmitQueue
  replica : Replica
  claims : Vector Slot 8
  member : Membership
  timebase : Timebase
  config : Option ConfigRecord
  host : HostPort
  deriving DecidableEq, Repr

/-- The Line Controller after a device reset (R165). -/
def LineController.reset : LineController :=
  { phase := .silent, recessiveRun := 0, endBits := 0, decode := none, delivery := [], ownVetoes := 0, issuedVetoes := 0, arbitrationLosses := 0,
    rate := none, rateChange := false, vetoDriven := false }

/-- The Transmit Queue after a device reset (R144). -/
def TransmitQueue.reset : TransmitQueue := { entries := [], pendingDeclines := [], awaiting := [] }

/-- The Membership Unit after a device reset (R97, R79, R96, R107). -/
def Membership.reset : Membership :=
  { state := .unconfigured, incarnationCounter := 0, incarnation := none, joinTag := none, leaveTag := none, failures := 0, own := none,
    orphanNote := none, attempt := none, abandoning := false, listenWindow := none, foundingPeriod := none, joinTimer := none,
    backoff := none, departEvicts := false, rosterLive := false, roster := Vector.replicate 16 RosterEntry.clear, beaconCounter := 0,
    beaconDeadline := none, beaconPending := false, admission := none, snapshot := .empty }

/-- The Timebase after a device reset (R59, R75). -/
def Timebase.reset : Timebase :=
  { counter := 0, trim := 0, residue := 0, tickCycles := Config.tickCycles, sum := 0, count := 0, roundDeadline := none, quiet := false, state := .free }

/-- The Host Port after a device reset, RST_N high again and CS_N high (R186); what R197 leaves open is a free value (log 7). -/
def HostPort.reset : HostPort :=
  { commands := [], events := [], dropped := 0, attnN := true, rstN := true, transaction := none, raised := [], later := Config.appendedLater }

/-- The machine right after a device reset. -/
def State.reset : State :=
  { pending := []
    line := LineController.reset
    tx := TransmitQueue.reset
    replica := Replica.clear
    claims := Vector.replicate 8 Slot.clear
    member := Membership.reset
    timebase := Timebase.reset
    config := none
    host := HostPort.reset }

/-- Reasons a step stops with a fault: none. The manual describes no behaviour in which the part stops; no meaning raises a fault. -/
inductive Fault where
  deriving DecidableEq, Repr

/-- Reasons a step is refused. No meaning raises one. -/
inductive Refusal where
  /-- The command has no meaning yet; raised only by an arm of `exec`. Safe: the run stops. -/
  | notModelled (mnemonic : String)
  deriving DecidableEq, Repr

end Sys2Proof.Machine
end

