-- ==== Sys2Proof/Machine/LineCode.lean ====
section
/-! DEFINITION. Bits on the group line: the 16-bit check, the frame's fields, inserted bits, and a station's decode of a body
level by level (spec/07 7.2 and 7.4; spec/09 9.4). -/

namespace Sys2Proof.Machine

/-! ## The 16-bit check (R29, R150) -/

/-- The check over a bit sequence, most significant bit first: generator x^16 + x^12 + x^5 + 1, register shifted left. -/
def crcBits (c : Word16) : List Bool → Word16
  | [] => c
  | b :: bs => if c.msb != b then crcBits ((c <<< 1) ^^^ 0x1021#16) bs else crcBits (c <<< 1) bs

/-- The register's preset (R29, R150). -/
def crcPreset : Word16 := 0xFFFF

/-- The `n` bits of a number, most significant first. -/
def natBits (n v : Nat) : List Bool := (List.range n).map (fun i => v.testBit (n - 1 - i))

/-- The bits of a byte, most significant first. -/
def byteBits (b : Byte) : List Bool := natBits 8 b.toNat

/-- The bits of a byte sequence. -/
def bytesBits (bs : List Byte) : List Bool := bs.flatMap byteBits

/-- The check over a byte sequence (R29). -/
def crcBytes (bs : List Byte) : Word16 := crcBits crcPreset (bytesBits bs)

/-- The number that bits spell, most significant first. -/
def bitsNat (bs : List Bool) : Nat := bs.foldl (fun n b => 2 * n + b.toNat) 0

/-! ## Kinds, classes and codes (R130, R193) -/

/-- The class of a kind (R130). -/
def FrameKind.cls : FrameKind → Nat
  | .found | .apply | .quit | .depart => 0
  | .beacon => 1
  | .admitJoiner | .decline | .snapshot | .snapEnd | .revoke => 2
  | .claim | .drop | .extend | .withdraw => 3

/-- The kind code within the class (R193). -/
def FrameKind.code : FrameKind → Nat
  | .found => 1 | .apply => 2 | .quit => 3 | .depart => 4
  | .beacon => 1
  | .admitJoiner => 1 | .decline => 2 | .snapshot => 3 | .snapEnd => 4 | .revoke => 5
  | .claim => 1 | .drop => 2 | .extend => 3 | .withdraw => 4

/-- The kinds in the order of R193's table. -/
def FrameKind.all : List FrameKind :=
  [.found, .apply, .quit, .depart, .beacon, .admitJoiner, .decline, .snapshot, .snapEnd, .revoke, .claim, .drop, .extend, .withdraw]

/-- The kind a code means in a class, if any (R193). -/
def FrameKind.ofCode (cls code : Nat) : Option FrameKind := FrameKind.all.find? (fun k => k.cls == cls && k.code == code)

/-- The payload lengths permitted for a kind (R193). -/
def FrameKind.lengths : FrameKind → List Nat
  | .found | .apply | .decline | .claim => [4]
  | .quit => [0]
  | .depart | .withdraw => [1]
  | .beacon | .admitJoiner => [10]
  | .snapshot => [6, 11, 16, 21, 26]
  | .snapEnd | .drop => [3]
  | .revoke | .extend => [5]

/-- The kind of a frame. -/
def Frame.kind : Frame → FrameKind
  | .found _ _ => .found
  | .apply _ _ => .apply
  | .quit => .quit
  | .depart _ => .depart
  | .beacon _ => .beacon
  | .admitJoiner _ _ _ _ _ => .admitJoiner
  | .decline _ => .decline
  | .snapshot _ _ => .snapshot
  | .snapEnd _ _ => .snapEnd
  | .revoke _ _ _ => .revoke
  | .claim _ _ _ _ => .claim
  | .drop _ _ => .drop
  | .extend _ _ _ => .extend
  | .withdraw _ => .withdraw

/-! ## Payloads (R194) -/

/-- A 16-bit quantity as two bytes, most significant first. -/
def word16Bytes (w : Word16) : List Byte := [w.extractLsb' 8 8, w.extractLsb' 0 8]

/-- A tick as four bytes, most significant first. -/
def tickBytes (t : Tick) : List Byte := [t.extractLsb' 24 8, t.extractLsb' 16 8, t.extractLsb' 8 8, t.extractLsb' 0 8]

/-- Two bytes as a 16-bit quantity. -/
def word16Of (hi lo : Byte) : Word16 := hi ++ lo

/-- A member entry's five bytes (R194). -/
def Member.bytes (m : Member) : List Byte :=
  BitVec.ofNat 8 ((if m.holder then 128 else 0) + 16 * m.mode.toNat + m.station.val) :: word16Bytes m.grant ++ word16Bytes m.term

/-- The payload of a frame (R194); reserved bits are sent as 0. -/
def Frame.payload : Frame → List Byte
  | .found inc pd => word16Bytes inc ++ word16Bytes pd
  | .apply inc pd => word16Bytes inc ++ word16Bytes pd
  | .quit => []
  | .depart d => [stationByte d]
  | .beacon b =>
    b.number :: tickBytes b.stamp ++ [BitVec.ofNat 8 (16 * b.stationState.toNat + b.timebaseState.toNat)] ++ word16Bytes b.digest ++ word16Bytes b.profile
  | .admitJoiner j inc cap parts states => stationByte j :: word16Bytes inc ++ word16Bytes cap ++ [parts] ++ tickBytes states
  | .decline d => stationByte d.joiner :: word16Bytes d.incarnation ++ [d.reason]
  | .snapshot j p =>
    [stationByte j, p.index, p.resource, BitVec.ofNat 8 p.state.toNat] ++ word16Bytes p.counter ++ p.members.flatMap Member.bytes
  | .snapEnd j dg => stationByte j :: word16Bytes dg
  | .revoke r h g => [r, stationByte h] ++ word16Bytes g ++ [0]
  | .claim r nw mode term => [r, BitVec.ofNat 8 ((if nw then 128 else 0) + mode.toNat)] ++ word16Bytes term
  | .drop r g => r :: word16Bytes g
  | .extend r g term => r :: word16Bytes g ++ word16Bytes term
  | .withdraw r => [r]

/-- The member entry that five bytes carry; the reserved bit is ignored (R194, R195). -/
def Member.ofBytes (b0 b1 b2 b3 b4 : Byte) : Member :=
  { holder := b0.msb, mode := b0.extractLsb' 4 2, station := stationOf b0, grant := word16Of b1 b2, term := word16Of b3 b4 }

/-- The member entries of a SNAPSHOT, five bytes each (R194). -/
def Member.listOfBytes : List Byte → Option (List Member)
  | [] => some []
  | b0 :: b1 :: b2 :: b3 :: b4 :: rest => (Member.listOfBytes rest).map (Member.ofBytes b0 b1 b2 b3 b4 :: ·)
  | _ => none

/-- The frame that a payload of a kind carries, reserved bits ignored (R194, R195); none where the length is not one of the kind's. -/
def Frame.ofPayload : FrameKind → List Byte → Option Frame
  | .found, [a, b, c, d] => some (.found (word16Of a b) (word16Of c d))
  | .apply, [a, b, c, d] => some (.apply (word16Of a b) (word16Of c d))
  | .quit, [] => some .quit
  | .depart, [a] => some (.depart (stationOf a))
  | .beacon, [n, t3, t2, t1, t0, st, d1, d0, p1, p0] =>
    some (.beacon { number := n, stamp := t3 ++ t2 ++ t1 ++ t0, stationState := st.extractLsb' 4 4, timebaseState := st.extractLsb' 0 2,
                    digest := word16Of d1 d0, profile := word16Of p1 p0 })
  | .admitJoiner, [j, i1, i0, c1, c0, n, s3, s2, s1, s0] =>
    some (.admitJoiner (stationOf j) (word16Of i1 i0) (word16Of c1 c0) n (s3 ++ s2 ++ s1 ++ s0))
  | .decline, [j, i1, i0, reason] => some (.decline { joiner := stationOf j, incarnation := word16Of i1 i0, reason := reason })
  | .snapshot, j :: idx :: r :: st :: c1 :: c0 :: rest =>
    (Member.listOfBytes rest).map (fun ms =>
      .snapshot (stationOf j) { index := idx, resource := r, state := st.extractLsb' 0 2, counter := word16Of c1 c0, members := ms })
  | .snapEnd, [j, d1, d0] => some (.snapEnd (stationOf j) (word16Of d1 d0))
  | .revoke, [r, h, g1, g0, _] => some (.revoke r (stationOf h) (word16Of g1 g0))
  | .claim, [r, m, t1, t0] => some (.claim r m.msb (m.extractLsb' 0 2) (word16Of t1 t0))
  | .drop, [r, g1, g0] => some (.drop r (word16Of g1 g0))
  | .extend, [r, g1, g0, t1, t0] => some (.extend r (word16Of g1 g0) (word16Of t1 t0))
  | .withdraw, [r] => some (.withdraw r)
  | _, _ => none

/-! ## The body a sender sends (R149, R150, R193) -/

/-- Key, kind, length and payload: the bits the CRC covers. -/
def coveredBits (sender : Station) (f : Frame) : List Level :=
  natBits 2 f.kind.cls ++ natBits 4 sender.val ++ natBits 4 f.kind.code ++ natBits 6 f.payload.length ++ bytesBits f.payload

/-- The body before inserted bits: start bit, covered bits, CRC. -/
def plainBody (sender : Station) (f : Frame) : List Level :=
  false :: coveredBits sender f ++ natBits 16 (crcBits crcPreset (coveredBits sender f)).toNat

/-- Inserts a bit of the opposite level after every run of 6 equal bits; an inserted bit starts a run of 1 (R149). `lvl` and `run`
are the level and length of the run so far. -/
def insertBits (lvl : Level) (run : Nat) : List Level → List Level
  | [] => []
  | b :: bs =>
    let run' := if b = lvl then run + 1 else 1
    if run' = Config.insertAfter then b :: (!b) :: insertBits (!b) 1 bs else b :: insertBits b run' bs

/-- The levels of a frame's body on the line, start bit first. -/
def encodeBody (sender : Station) (f : Frame) : List Level := insertBits true 0 (plainBody sender f)

/-! ## A station's decode of a body (R149, R150, R154, R157) -/

/-- Before the start bit. -/
def Rx.start : Rx := { bits := [], runLevel := true, runLen := 0, recessive := 0, crc := crcPreset, payloadLen := none, fault := none }

/-- Bits of the body before inserted bits, as located: 33 and 8 for each payload byte (spec/07 7.2); before the length field is
decoded, at least the 17 bits up to its end and the CRC. -/
def Rx.located (rx : Rx) : Nat := 33 + 8 * rx.payloadLen.getD 0

/-- Bits decoded so far, in the order sent. -/
def Rx.order (rx : Rx) : List Level := rx.bits.reverse

/-- A field of the decoded bits: `n` bits from bit `at_` of the body. -/
def Rx.field (rx : Rx) (at_ n : Nat) : Nat := bitsNat ((rx.order.drop at_).take n)

/-- The kind decoded, if its code has a meaning in the class decoded (R150). -/
def Rx.kind (rx : Rx) : Option FrameKind := FrameKind.ofCode (rx.field 1 2) (rx.field 7 4)

/-- The end of the body as located: its last bit has been decoded and no inserted bit is due (R149). -/
def Rx.bodyDone (rx : Rx) : Bool := rx.payloadLen.isSome && rx.bits.length == rx.located && rx.runLen != Config.insertAfter

/-- Seven recessive bits in a row have been read inside the body (R157). -/
def Rx.lost (rx : Rx) : Bool := Config.missedRun ≤ rx.recessive

/-- Keeps the first fault found (R154). -/
def Rx.note (rx : Rx) (bad : Bool) (f : LineFault) : Rx := if bad && rx.fault.isNone then { rx with fault := some f } else rx

/-- The checks made at the bit that completes a field (R150, R154): the kind at bit 11, the length at bit 17, the CRC at the last bit.
A length above 48 is taken as 48 to locate the window. -/
def Rx.checkFields (rx : Rx) : Rx :=
  if rx.bits.length = 11 then rx.note rx.kind.isNone .unknownKind
  else if rx.bits.length = 17 then
    let len := rx.field 11 6
    let permitted := match rx.kind with
      | some k => k.lengths.contains len
      | none => len ≤ 48
    { rx with payloadLen := some (min len 48) }.note (!permitted) .badLength
  else if rx.payloadLen.isSome && rx.bits.length == rx.located then
    rx.note (rx.field (rx.located - 16) 16 != rx.crc.toNat) .crcMismatch
  else rx

/-- One level read inside the body. Where an inserted bit is due it is removed, and the same level there is an inserted-bit
violation (R149); the bit then starts a run of 1 either way (log 11). Any other bit joins the body and, from the key to the end
of the payload, the CRC (R150). -/
def Rx.feed (rx : Rx) (b : Level) : Rx :=
  let rec' := if b then rx.recessive + 1 else 0
  if rx.runLen = Config.insertAfter then
    { rx with runLevel := b, runLen := 1, recessive := rec' }.note (b == rx.runLevel) .insertedBit
  else
    let covered := 0 < rx.bits.length && (rx.payloadLen.isNone || rx.bits.length < rx.located - 16)
    { rx with
      bits := b :: rx.bits
      runLevel := b
      runLen := if b = rx.runLevel then rx.runLen + 1 else 1
      recessive := rec'
      crc := if covered then crcBits rx.crc [b] else rx.crc }.checkFields

/-- Levels read one after another; none if some level would lie past the end of the body or past the seventh recessive bit. -/
def Rx.feedAll (rx : Rx) : List Level → Option Rx
  | [] => some rx
  | b :: bs => if rx.bodyDone || rx.lost then none else (rx.feed b).feedAll bs

/-- The sender and frame that a body decoded without fault carries. -/
def Rx.frame (rx : Rx) : Option (Station × Frame) :=
  match rx.kind with
  | none => none
  | some k =>
    let len := rx.payloadLen.getD 0
    let bytes := (List.range len).map (fun i => BitVec.ofNat 8 (rx.field (17 + 8 * i) 8))
    (Frame.ofPayload k bytes).map (fun f => (⟨rx.field 3 4 % 16, Nat.mod_lt _ (by decide)⟩, f))

end Sys2Proof.Machine
end

