-- ==== Sys2Proof/Machine/Operands.lean ====
section
/-! DEFINITION. Operand forms: command records and their ranges (R171, R172, R188), and the configuration record they carry (R98, R99). -/

namespace Sys2Proof.Machine

/-! ## Command records (R188) -/

/-- Command kinds. -/
inductive CommandKind where
  | configure | join | leave | acquire | release | renew | cancel
  deriving DecidableEq, Repr

/-- Command kind codes (R188). -/
def CommandKind.code : CommandKind → Byte
  | .configure => 0x01
  | .join => 0x02
  | .leave => 0x03
  | .acquire => 0x10
  | .release => 0x11
  | .renew => 0x12
  | .cancel => 0x13

/-- The kind that byte 0 of a record names, if any (R188). -/
def CommandKind.ofCode (b : Byte) : Option CommandKind :=
  [CommandKind.configure, .join, .leave, .acquire, .release, .renew, .cancel].find? (fun k => k.code == b)

/-- The eight bytes of a record in order. -/
def CommandRecord.bytes (r : CommandRecord) : List Byte := [r.kind, r.tag, r.p1, r.p2, r.p3, r.p4, r.p5, r.check]

/-- The record that the first eight bytes clocked in make; none if fewer were clocked (R167, R188). -/
def CommandRecord.ofBytes : List Byte → Option CommandRecord
  | k :: t :: a :: b :: c :: d :: e :: x :: _ => some { kind := k, tag := t, p1 := a, p2 := b, p3 := c, p4 := d, p5 := e, check := x }
  | _ => none

/-- The sum of bytes modulo 256. -/
def byteSum (bs : List Byte) : Byte := bs.foldl (· + ·) 0

/-- The check byte passes when the eight bytes sum to 0xFF (R171). -/
def CommandRecord.checkOk (r : CommandRecord) : Bool := byteSum r.bytes == 0xFF#8

/-- The kind of a record that passes the check byte and names a kind (R172, checks 1 and 2). -/
def CommandRecord.validKind (r : CommandRecord) : Option CommandKind := if r.checkOk then CommandKind.ofCode r.kind else none

/-! ## Fields (R188) -/

/-- The station number of a CONFIGURE: bits 7 to 4 of P1. -/
def CommandRecord.station (r : CommandRecord) : Station := (r.p1.extractLsb' 4 4).toFin

/-- The mode code of an ACQUIRE: bits 1 and 0 of P2. -/
def CommandRecord.modeCode (r : CommandRecord) : BitVec 2 := r.p2.extractLsb' 0 2

/-- The no-wait flag of an ACQUIRE: bit 7 of P2. -/
def CommandRecord.noWait (r : CommandRecord) : Bool := r.p2.msb

/-- The term of an ACQUIRE or RENEW: P3 and P4. -/
def CommandRecord.term (r : CommandRecord) : Word16 := word16Of r.p3 r.p4

/-- A mode code's mode; 0 and 3 are unused (spec/09 9.1). -/
def Mode.ofCode (c : BitVec 2) : Option Mode := if c = 1 then some .exclusive else if c = 2 then some .shared else none

/-- A mode's code (spec/09 9.1). -/
def Mode.code : Mode → BitVec 2
  | .exclusive => 1
  | .shared => 2

/-- The number of resources configured, 1 to 64 (R98, R188). -/
def ConfigRecord.resourceCount (c : ConfigRecord) : Nat := c.lastResource.toNat + 1

/-- The guard in LTU. -/
def ConfigRecord.guardLtu (c : ConfigRecord) : Nat := c.guard.toNat

/-- A term is allowed when it is not 0 and greater than 4 × the guard (R8, R38). -/
def termOk (c : ConfigRecord) (term : Word16) : Bool := term != 0 && 4 * c.guardLtu < term.toNat

/-- The profile digest: the check of R29 over line rate code, beacon period, misses, guard, resource count and group key (R99). -/
def profileDigest (rate : BitVec 2) (beaconPeriod : Byte) (misses : BitVec 3) (guard : Byte) (lastResource : BitVec 6) (groupKey : Byte) : Word16 :=
  crcBytes [BitVec.ofNat 8 rate.toNat, beaconPeriod, BitVec.ofNat 8 misses.toNat, guard, BitVec.ofNat 8 (lastResource.toNat + 1), groupKey]

/-- The configuration record that a CONFIGURE carries (R98, R188). -/
def CommandRecord.config (r : CommandRecord) : ConfigRecord :=
  let rate := r.p2.extractLsb' 6 2
  let last := r.p2.extractLsb' 0 6
  let misses := r.p1.extractLsb' 0 3
  { station := r.station, rate := rate, beaconPeriod := r.p3, misses := misses, guard := r.p4, lastResource := last, groupKey := r.p5,
    profile := profileDigest rate r.p3 misses r.p4 last r.p5 }

/-- The parameter-range check of R172, fourth in the order, with the values R188 puts out of range; `c` is the configuration in force. -/
def CommandRecord.inRange (r : CommandRecord) (c : ConfigRecord) : CommandKind → Bool
  | .configure => r.tag != 0 && !r.p1.getLsbD 3 && 2 ≤ (r.p1.extractLsb' 0 3).toNat && 20 ≤ r.p3.toNat && r.p4 != 0
  | .join | .leave => r.tag != 0 && r.p1 == 0 && r.p2 == 0 && r.p3 == 0 && r.p4 == 0 && r.p5 == 0
  | .acquire =>
    r.tag != 0 && r.p1.toNat < c.resourceCount && (r.p2.extractLsb' 2 5) == 0 && (Mode.ofCode r.modeCode).isSome && termOk c r.term && r.p5 == 0
  | .renew => r.tag != 0 && r.p1.toNat < c.resourceCount && r.p2 == 0 && termOk c r.term && r.p5 == 0
  | .release | .cancel => r.tag != 0 && r.p1.toNat < c.resourceCount && r.p2 == 0 && r.p3 == 0 && r.p4 == 0 && r.p5 == 0

/-- The station states that take each command kind (R38, R98, R100, R124; the table after R173). -/
def CommandKind.takenIn : CommandKind → StationState → Bool
  | .configure, st => st == .unconfigured || st == .offline
  | .join, st => st == .offline
  | .leave, st => st == .listen || st == .founding || st == .joining || st == .catchup || st == .online || st == .mute
  | .acquire, st | .release, st | .renew, st | .cancel, st => st == .online

/-- The resource or station field of a REFUSED (R173, R188). -/
def CommandRecord.refusedSubject (r : CommandRecord) : CommandKind → Byte
  | .configure => stationByte r.station
  | .join | .leave => 0
  | .acquire | .release | .renew | .cancel => r.p1

end Sys2Proof.Machine
end

