-- ==== Sys2Proof/Machine/Flags.lean ====
section
/-! DEFINITION. Codes, flags and packed bytes: the codes of spec/09 9.1, event records (R178, R189), the port byte (R190), and the
deadline test (R62). -/

namespace Sys2Proof.Machine

/-! ## Deadlines (R62) -/

/-- A deadline is reached when the counter, less the deadline, taken as signed, is zero or positive (R62). -/
def reached (now deadline : Tick) : Bool := !(now - deadline).msb

/-- An optional deadline is present and reached. -/
def expired (now : Tick) (deadline : Option Tick) : Bool :=
  match deadline with
  | some d => reached now d
  | none => false

/-! ## Codes (spec/09 9.1) -/

/-- Station state codes. -/
def StationState.code : StationState → Nat
  | .unconfigured => 0 | .offline => 1 | .listen => 2 | .founding => 3 | .joining => 4 | .catchup => 5 | .online => 6 | .mute => 7 | .leaving => 8

/-- The station state a BEACON can report: FOUNDING, JOINING, CATCHUP or ONLINE (R79, R195). -/
def StationState.ofBeacon (c : BitVec 4) : Option StationState :=
  if c = 3 then some .founding else if c = 4 then some .joining else if c = 5 then some .catchup else if c = 6 then some .online else none

/-- Timebase state codes. -/
def TimebaseState.code : TimebaseState → Nat
  | .free => 0 | .tracking => 1 | .locked => 2

/-- The timebase state of a code; 3 is unused. -/
def TimebaseState.ofCode (c : BitVec 2) : Option TimebaseState :=
  if c = 0 then some .free else if c = 1 then some .tracking else if c = 2 then some .locked else none

/-- Resource state codes. -/
def ResourceState.code : ResourceState → Nat
  | .free => 0 | .exclusive => 1 | .shared => 2

/-- The resource state of a code; 3 is unused. -/
def ResourceState.ofCode (c : BitVec 2) : Option ResourceState :=
  if c = 0 then some .free else if c = 1 then some .exclusive else if c = 2 then some .shared else none

/-- Roster entry state codes. -/
def RosterState.code : RosterState → Nat
  | .absent => 0 | .joining => 1 | .online => 2

/-- The roster entry state of a code; 3 is unused. -/
def RosterState.ofCode (c : BitVec 2) : Option RosterState :=
  if c = 0 then some .absent else if c = 1 then some .joining else if c = 2 then some .online else none

/-- The two bits of station `n` in the roster states of an ADMIT: station 0 in the top two (R194). -/
def rosterCodeAt (states : BitVec 32) (n : Station) : BitVec 2 := states.extractLsb' (30 - 2 * n.val) 2

/-! ## Event records (R178, R189) -/

/-- Event kind codes. -/
def EventKind.code : EventKind → Byte
  | .configured => 0x01 | .refused => 0x02
  | .granted => 0x10 | .queued => 0x11 | .denied => 0x12 | .cancelled => 0x13 | .cancelDone => 0x14 | .released => 0x15 | .renewed => 0x16
  | .renewLate => 0x17 | .lost => 0x18
  | .joined => 0x20 | .joinFailed => 0x21 | .joinRetry => 0x22 | .left => 0x23 | .evicted => 0x24 | .peerJoined => 0x25 | .peerLeft => 0x26
  | .muted => 0x27 | .divergence => 0x28
  | .timebase => 0x30 | .overrun => 0x31 | .portReset => 0x32

/-- Refusal reasons of a REFUSED event (R172). -/
inductive RefusedReason where
  | check | kind | state | range | slots | already | notHeld | notWaiting | busySlot
  deriving DecidableEq, Repr

/-- Reason codes (R189). -/
def RefusedReason.code : RefusedReason → Byte
  | .check => 1 | .kind => 2 | .state => 3 | .range => 4 | .slots => 5 | .already => 6 | .notHeld => 7 | .notWaiting => 8 | .busySlot => 9

/-- Detail codes (R189). -/
def detailDeniedNone : Byte := 0
def detailDeniedRejected : Byte := 1
def detailBeforeLine : Byte := 1
def detailFromWait : Byte := 2
def detailAfterGrant : Byte := 3
def detailAfterDenial : Byte := 4
def detailDropped : Byte := 1
def detailRevokedFirst : Byte := 2
def detailLateLapsed : Byte := 1
def detailLateRevoked : Byte := 2
def detailLateRejected : Byte := 3
def detailLostLapsed : Byte := 1
def detailLostRevoked : Byte := 2
def detailMismatch : Byte := 1
def detailDuplicate : Byte := 2
def detailAttempts : Byte := 3
def detailBusy : Byte := 1
def detailAbandoned : Byte := 2
def detailQuit : Byte := 1
def detailDepart : Byte := 2
def detailOwnVetoes : Byte := 1
def detailIssuedVetoes : Byte := 2

/-- JOIN_RETRY details of a failed attempt (R121, R189). -/
def FailReason.code : FailReason → Byte
  | .timeout => 3 | .check => 4 | .catchupFull => 5 | .admitterLeft => 6

/-- DECLINE reasons on the line (R194). -/
def declineBusy : Byte := 1
def declineMismatch : Byte := 2
def declineDuplicate : Byte := 3

/-- The check byte that makes bytes sum to 0xFF (R178). -/
def checkByte (bs : List Byte) : Byte := 0xFF#8 - byteSum bs

/-- An event record as it is clocked out (R189). -/
def EventRecord.bytes (e : EventRecord) : List Byte :=
  let body := [e.kind.code, e.tag, e.subject] ++ word16Bytes e.grant ++ [e.detail, e.count]
  body ++ [checkByte body]

/-- The NONE record (R177, R189). -/
def noneRecord : List Byte := [0, 0, 0, 0, 0, 0, 0, 0xFF]

/-- The port byte (R166, R190): bit 7 while the Command Queue holds 4 records, bits 5 to 0 the records in the Event Queue. -/
def HostPort.portByte (h : HostPort) : Byte :=
  BitVec.ofNat 8 ((if Config.commandQueueSize ≤ h.commands.length then 128 else 0) + h.events.length)

/-- Response bytes of a PUT_COMMAND (R190). -/
def responseAccept : Byte := 0xA5
def responseFull : Byte := 0x5A

end Sys2Proof.Machine
end

