-- ==== Sys2Proof/Machine/LeaseTable.lean ====
section
/-! DEFINITION. The Replica Engine's rules over one replica (spec/01): the table digest, the grant pass, and what applying CLAIM,
DROP, EXTEND, WITHDRAW, REVOKE and a departure does. Each function answers the new replica, the reports to the Claim Manager in
the order they are raised, and the REVOKE frames whose withdrawal it asks for. -/

namespace Sys2Proof.Machine

/-! ## Reading and writing the table -/

/-- The resource entry of a number; the values of a station clear for a number above 63. -/
def Replica.entry (rep : Replica) (r : Nat) : ResourceEntry := if h : r < 64 then rep.table[r] else ResourceEntry.clear

/-- Replaces a resource entry; a number above 63 names none. -/
def Replica.setEntry (rep : Replica) (r : Nat) (e : ResourceEntry) : Replica :=
  if h : r < 64 then { rep with table := rep.table.set r e } else rep

/-- The station entry count (R5). -/
def Replica.count (rep : Replica) (s : Station) : Nat := rep.counts[s]

/-- Sets a station entry count. -/
def Replica.setCount (rep : Replica) (s : Station) (n : Nat) : Replica := { rep with counts := rep.counts.set s n }

/-- A frame ignored and counted (R31). -/
def Replica.countStale (rep : Replica) : Replica := { rep with stale := satInc16 rep.stale }

/-- The holder entry of a station, if any. -/
def ResourceEntry.holder? (e : ResourceEntry) (s : Station) : Option Holder := e.holders.find? (fun h => h.station == s)

/-- The wait entry of a station, if any. -/
def ResourceEntry.waiter? (e : ResourceEntry) (s : Station) : Option Waiter := e.waiters.find? (fun w => w.station == s)

/-! ## The table digest (R29) -/

/-- The bytes one resource entry gives the digest (R29). -/
def ResourceEntry.digestBytes (e : ResourceEntry) (r : Nat) : List Byte :=
  [BitVec.ofNat 8 r, BitVec.ofNat 8 e.state.code] ++ word16Bytes e.counter
    ++ BitVec.ofNat 8 e.holders.length :: e.holders.flatMap (fun h => stationByte h.station :: word16Bytes h.grant)
    ++ BitVec.ofNat 8 e.waiters.length :: e.waiters.flatMap (fun w => [stationByte w.station, BitVec.ofNat 8 w.mode.code.toNat])

/-- The digest of the first `n` of a list of resource entries (R29). -/
def digestOf (n : Nat) (entries : List ResourceEntry) : Word16 :=
  crcBytes ((entries.take n).zipIdx.flatMap (fun p => p.1.digestBytes p.2))

/-- The table digest of a replica under a configuration; with no configuration there is no resource entry to cover (log 21). -/
def Replica.digest (rep : Replica) (c : Option ConfigRecord) : Word16 :=
  digestOf (match c with | some c => c.resourceCount | none => 0) rep.table.toList

/-- The replica as the digest and the views take it: while it is not live, the values of a station clear (R30, R181, R182). -/
def Replica.shown (rep : Replica) : Replica := if rep.live then rep else Replica.clear

/-! ## Reports (R9) -/

/-- Reports of the Replica Engine to the Claim Manager (R9). -/
inductive Report where
  | granted (resource : ResNo) (grant term : Word16) (time : Tick)
  | queued (resource : ResNo) (position : Nat)
  | denied (resource : ResNo)
  | rejected (resource : ResNo) (kind : FrameKind)
  | dropApplied (resource : ResNo) (grant : Word16)
  | dropStale (resource : ResNo)
  | extendApplied (resource : ResNo) (grant term : Word16) (time : Tick)
  | extendStale (resource : ResNo)
  | withdrawFromWait (resource : ResNo)
  | withdrawAsDrop (resource : ResNo) (grant : Word16)
  | withdrawStale (resource : ResNo)
  | revoked (resource : ResNo) (grant : Word16)
  deriving DecidableEq, Repr

/-- The resource number a report carries. -/
def Report.resource : Report → ResNo
  | .granted r _ _ _ | .queued r _ | .denied r | .rejected r _ | .dropApplied r _ | .dropStale r | .extendApplied r _ _ _ | .extendStale r
  | .withdrawFromWait r | .withdrawAsDrop r _ | .withdrawStale r | .revoked r _ => r

/-- What applying the lease part of a frame does to one replica. -/
structure LeaseResult where
  replica : Replica
  reports : List Report
  withdrawals : List FrameId
  deriving DecidableEq, Repr

/-- What the rules read when a frame is applied: the configuration, the counter now, and the frame's application time (R7). -/
structure LeaseContext where
  config : ConfigRecord
  now : Tick
  time : Tick
  deriving DecidableEq, Repr

/-- This station's number. -/
def LeaseContext.me (x : LeaseContext) : Station := x.config.station

/-- A report is raised only for this station's claims (R9). -/
def LeaseContext.reportIf (x : LeaseContext) (s : Station) (r : Report) : List Report := if s = x.me then [r] else []

/-! ## Holder entries (R3, R13, R16, R23) -/

/-- The replica deadline: the application time plus the term plus the guard (R3). -/
def replicaDeadline (c : ConfigRecord) (time : Tick) (term : Word16) : Tick := time + ltu (term.toNat + c.guardLtu)

/-- The revocation state of an entry whose deadline has just been set: none for this station; WATCHING for a peer, or MARKED where the
deadline is already reached (R23, log 5). -/
def LeaseContext.revocationFor (x : LeaseContext) (s : Station) (deadline : Tick) : Option RevocationState :=
  if s = x.me then none else if reached x.now deadline then some .marked else some .watching

/-- A new holder entry (R11, R13). -/
def LeaseContext.newHolder (x : LeaseContext) (s : Station) (grant term : Word16) : Holder :=
  let deadline := replicaDeadline x.config x.time term
  { station := s, grant := grant, term := term, deadline := deadline, revocation := x.revocationFor s deadline }

/-! ## The grant pass (R10, R11) -/

/-- How many waiters at the head of a wait list a grant pass grants (R10). -/
def grantCount (st : ResourceState) (ws : List Waiter) : Nat :=
  match ws with
  | [] => 0
  | w :: _ =>
    match st, w.mode with
    | .exclusive, _ => 0
    | .free, .exclusive => 1
    | .shared, .exclusive => 0
    | .free, .shared => (ws.takeWhile (fun v => v.mode == .shared)).length
    | .shared, .shared => (ws.takeWhile (fun v => v.mode == .shared)).length

/-- The state a resource has while its next waiter is granted (R10): the mode of the head, where it is granted. -/
def grantState (st : ResourceState) (ws : List Waiter) : ResourceState :=
  if grantCount st ws = 0 then st
  else
    match ws with
    | [] => st
    | w :: _ => match w.mode with
      | .exclusive => .exclusive
      | .shared => .shared

/-- Grants the first `n` waiters one after another (R11). -/
def LeaseContext.grantFirst (x : LeaseContext) (r : ResNo) : Nat → ResourceEntry → ResourceEntry × List Report
  | 0, e => (e, [])
  | n + 1, e =>
    match e.waiters with
    | [] => (e, [])
    | w :: ws =>
      let g := e.counter + 1
      let next := x.grantFirst r n { e with counter := g, waiters := ws, holders := e.holders ++ [x.newHolder w.station g w.term] }
      (next.1, x.reportIf w.station (.granted r g w.term x.time) ++ next.2)

/-- The grant pass over one entry (R10, R11). -/
def LeaseContext.passEntry (x : LeaseContext) (r : ResNo) (e : ResourceEntry) : ResourceEntry × List Report :=
  x.grantFirst r (grantCount e.state e.waiters) { e with state := grantState e.state e.waiters }

/-- The grant pass on one resource (R10, R11): granted waiters return their entries to the Wait Pool. -/
def LeaseContext.grantPass (x : LeaseContext) (r : ResNo) (rep : Replica) : Replica × List Report :=
  let e := rep.entry r.toNat
  let p := x.passEntry r e
  ({ rep.setEntry r.toNat p.1 with poolFree := rep.poolFree + grantCount e.state e.waiters }, p.2)

/-! ## Removing a holder or a waiter -/

/-- The REVOKE this station has queued for a holder entry, if any (R25). -/
def Holder.queuedRevoke (h : Holder) (r : ResNo) : List FrameId :=
  if h.revocation = some .queued then [.revoke r h.station h.grant] else []

/-- An entry without the holder entry of a station; with no holder left it is FREE (R2). -/
def ResourceEntry.dropHolder (e : ResourceEntry) (s : Station) : ResourceEntry :=
  let hs := e.holders.filter (fun h => h.station != s)
  { e with holders := hs, state := if hs.isEmpty then .free else e.state }

/-- An entry without the wait entry of a station (R4). -/
def ResourceEntry.dropWaiter (e : ResourceEntry) (s : Station) : ResourceEntry :=
  { e with waiters := e.waiters.filter (fun w => w.station != s) }

/-- Removes the holder entry of a station from a resource: the entry count falls by one (R5, R15). -/
def Replica.removeHolder (rep : Replica) (r : ResNo) (s : Station) : Replica :=
  (rep.setEntry r.toNat ((rep.entry r.toNat).dropHolder s)).setCount s (rep.count s - 1)

/-- Removes the wait entry of a station from a resource: the entry returns to the pool, the entry count falls by one (R4, R18). -/
def Replica.removeWaiter (rep : Replica) (r : ResNo) (s : Station) : Replica :=
  { (rep.setEntry r.toNat ((rep.entry r.toNat).dropWaiter s)).setCount s (rep.count s - 1) with poolFree := rep.poolFree + 1 }

/-! ## Validation (R8) -/

/-- The checks of R8 that every lease frame passes: its sender ONLINE in this replica's roster, its resource configured. -/
def LeaseContext.valid (x : LeaseContext) (online : Bool) (r : ResNo) : Bool := online && r.toNat < x.config.resourceCount

/-- A frame ignored and counted, with REJECTED where this station sent it (R8, R12). -/
def LeaseContext.reject (x : LeaseContext) (s : Station) (r : ResNo) (k : FrameKind) (rep : Replica) : LeaseResult :=
  { replica := rep.countStale, reports := x.reportIf s (.rejected r k), withdrawals := [] }

/-- A stale frame, ignored and counted, with its report (R15, R17, R19). -/
def LeaseContext.stale (x : LeaseContext) (s : Station) (report : Report) (rep : Replica) : LeaseResult :=
  { replica := rep.countStale, reports := x.reportIf s report, withdrawals := [] }

/-! ## CLAIM (R12, R13, R14) -/

/-- Whether a CLAIM is immediately grantable (R13). -/
def ResourceEntry.grantable (e : ResourceEntry) (m : Mode) : Bool :=
  (e.state == .free && e.waiters.isEmpty) || (m == .shared && e.state == .shared && e.waiters.isEmpty)

/-- The state after a grant at once: a FREE resource takes the mode (R13). -/
def ResourceEntry.claimedState (e : ResourceEntry) (m : Mode) : ResourceState :=
  if e.state = .free then (match m with | .exclusive => .exclusive | .shared => .shared) else e.state

/-- A CLAIM granted at once (R13). -/
def LeaseContext.claimGranted (x : LeaseContext) (s : Station) (r : ResNo) (m : Mode) (term : Word16) (rep : Replica) : LeaseResult :=
  let e := rep.entry r.toNat
  let g := e.counter + 1
  let e' := { e with state := e.claimedState m, counter := g, holders := e.holders ++ [x.newHolder s g term] }
  let p := x.grantPass r ((rep.setEntry r.toNat e').setCount s (rep.count s + 1))
  { replica := p.1, reports := x.reportIf s (.granted r g term x.time) ++ p.2, withdrawals := [] }

/-- A CLAIM appended to the wait list (R14). -/
def LeaseContext.claimQueued (x : LeaseContext) (s : Station) (r : ResNo) (m : Mode) (term : Word16) (rep : Replica) : LeaseResult :=
  let e := rep.entry r.toNat
  let e' := { e with waiters := e.waiters ++ [{ station := s, mode := m, term := term }] }
  let p := x.grantPass r { (rep.setEntry r.toNat e').setCount s (rep.count s + 1) with poolFree := rep.poolFree - 1 }
  { replica := p.1, reports := x.reportIf s (.queued r e'.waiters.length) ++ p.2, withdrawals := [] }

/-- An accepted CLAIM applied to a live replica (R8, R12, R13, R14). -/
def LeaseContext.applyClaim (x : LeaseContext) (s : Station) (online : Bool) (r : ResNo) (noWait : Bool) (mode : BitVec 2) (term : Word16)
    (rep : Replica) : LeaseResult :=
  match Mode.ofCode mode with
  | none => x.reject s r .claim rep
  | some m =>
    if !(x.valid online r && termOk x.config term) then x.reject s r .claim rep
    else
      let e := rep.entry r.toNat
      if (e.holder? s).isSome || (e.waiter? s).isSome || Config.stationEntryMax ≤ rep.count s then x.reject s r .claim rep
      else if e.grantable m then x.claimGranted s r m term rep
      else if noWait then { replica := rep, reports := x.reportIf s (.denied r), withdrawals := [] }
      else x.claimQueued s r m term rep

/-! ## DROP, EXTEND, WITHDRAW, REVOKE (R15 to R20) -/

/-- Removes a holder entry and runs the grant pass: the common part of R15, R19 and R20. `report` is raised before those of the pass. -/
def LeaseContext.endHolding (x : LeaseContext) (r : ResNo) (h : Holder) (report : List Report) (rep : Replica) : LeaseResult :=
  let p := x.grantPass r (rep.removeHolder r h.station)
  { replica := p.1, reports := report ++ p.2, withdrawals := h.queuedRevoke r }

/-- An accepted DROP (R8, R15). -/
def LeaseContext.applyDrop (x : LeaseContext) (s : Station) (online : Bool) (r : ResNo) (grant : Word16) (rep : Replica) : LeaseResult :=
  if !x.valid online r then x.reject s r .drop rep
  else
    match (rep.entry r.toNat).holder? s with
    | some h =>
      if h.grant = grant then x.endHolding r h (x.reportIf s (.dropApplied r grant)) rep else x.stale s (.dropStale r) rep
    | none => x.stale s (.dropStale r) rep

/-- The holder list with one holding renewed in place (R16). -/
def LeaseContext.renewHolders (x : LeaseContext) (s : Station) (grant term : Word16) (hs : List Holder) : List Holder :=
  hs.map (fun h => if h.station = s then x.newHolder s grant term else h)

/-- An accepted EXTEND (R8, R16, R17, R25). -/
def LeaseContext.applyExtend (x : LeaseContext) (s : Station) (online : Bool) (r : ResNo) (grant term : Word16) (rep : Replica) : LeaseResult :=
  if !(x.valid online r && termOk x.config term) then x.reject s r .extend rep
  else
    let e := rep.entry r.toNat
    match e.holder? s with
    | some h =>
      if h.grant = grant then
        let g := e.counter + 1
        { replica := rep.setEntry r.toNat { e with counter := g, holders := x.renewHolders s g term e.holders }
          reports := x.reportIf s (.extendApplied r g term x.time)
          withdrawals := h.queuedRevoke r }
      else x.stale s (.extendStale r) rep
    | none => x.stale s (.extendStale r) rep

/-- An accepted WITHDRAW (R8, R18, R19). -/
def LeaseContext.applyWithdraw (x : LeaseContext) (s : Station) (online : Bool) (r : ResNo) (rep : Replica) : LeaseResult :=
  if !x.valid online r then x.reject s r .withdraw rep
  else
    let e := rep.entry r.toNat
    match e.waiter? s, e.holder? s with
    | some _, _ =>
      let p := x.grantPass r (rep.removeWaiter r s)
      { replica := p.1, reports := x.reportIf s (.withdrawFromWait r) ++ p.2, withdrawals := [] }
    | none, some h => x.endHolding r h (x.reportIf s (.withdrawAsDrop r h.grant)) rep
    | none, none => x.stale s (.withdrawStale r) rep

/-- An accepted REVOKE naming a holding (R8, R20). `own` says that this station sent it, so that it asks for no withdrawal of it
(R25, R27). A stale REVOKE causes no report. -/
def LeaseContext.applyRevoke (x : LeaseContext) (s : Station) (online own : Bool) (r : ResNo) (holder : Station) (grant : Word16)
    (rep : Replica) : LeaseResult :=
  if !x.valid online r then x.reject s r .revoke rep
  else
    match (rep.entry r.toNat).holder? holder with
    | some h =>
      if h.grant = grant then
        let out := x.endHolding r h (x.reportIf holder (.revoked r grant)) rep
        if own then { out with withdrawals := [] } else out
      else { replica := rep.countStale, reports := [], withdrawals := [] }
    | none => { replica := rep.countStale, reports := [], withdrawals := [] }

/-! ## Departure of a station (R21) -/

/-- Whether a station holds or waits in an entry. -/
def ResourceEntry.names (e : ResourceEntry) (s : Station) : Bool := (e.holder? s).isSome || (e.waiter? s).isSome

/-- An entry without any entry of a station; with no holder left it is FREE (R21). -/
def ResourceEntry.dropStation (e : ResourceEntry) (s : Station) : ResourceEntry :=
  if e.names s then (e.dropHolder s).dropWaiter s else e

/-- The resources, ascending, in which a station holds or waits. -/
def Replica.resourcesOf (rep : Replica) (s : Station) : List Nat := (List.range 64).filter (fun r => (rep.entry r).names s)

/-- Grant passes on several resources in order (R21). -/
def LeaseContext.passes (x : LeaseContext) : List Nat → Replica → Replica × List Report
  | [], rep => (rep, [])
  | r :: rs, rep =>
    let p := x.grantPass (BitVec.ofNat 8 r) rep
    let q := x.passes rs p.1
    (q.1, p.2 ++ q.2)

/-- The removals of R21, all made first. -/
def Replica.removeStation (rep : Replica) (s : Station) : Replica :=
  { rep with
    table := rep.table.map (fun e => e.dropStation s)
    counts := rep.counts.set s 0
    poolFree := rep.poolFree + (rep.table.toList.map (fun e => (e.waiters.filter (fun w => w.station == s)).length)).sum }

/-- The REVOKE frames this station has queued for the holdings of a station, in ascending resource number (R25). -/
def Replica.queuedRevokesOf (rep : Replica) (s : Station) : List FrameId :=
  (List.range 64).flatMap (fun r => match (rep.entry r).holder? s with
    | some h => h.queuedRevoke (BitVec.ofNat 8 r)
    | none => [])

/-- The lease part of a QUIT or first DEPART of a peer (R21). -/
def LeaseContext.applyDeparture (x : LeaseContext) (s : Station) (rep : Replica) : LeaseResult :=
  let p := x.passes (rep.resourcesOf s) (rep.removeStation s)
  { replica := p.1, reports := p.2, withdrawals := rep.queuedRevokesOf s }

/-! ## Replica deadlines and revocation (R23, R24) -/

/-- Sets the revocation state of a station's holder entry. -/
def Replica.setRevocation (rep : Replica) (r : Nat) (s : Station) (v : RevocationState) : Replica :=
  let e := rep.entry r
  rep.setEntry r { e with holders := e.holders.map (fun h => if h.station = s then { h with revocation := some v } else h) }

/-- The MARKED entries in ascending resource number and, within one resource, in holder-list order (R24). -/
def Replica.marked (rep : Replica) : List (Nat × Holder) :=
  (List.range 64).flatMap (fun r => ((rep.entry r).holders.filter (fun h => h.revocation == some .marked)).map (fun h => (r, h)))

/-! ## Capture and load (R109, R117, R119) -/

/-- The values of a resource entry as a snapshot carries them, as an entry whose digest can be taken. -/
def SnapEntry.toEntry (e : SnapEntry) : ResourceEntry :=
  { state := e.state, counter := e.counter, waiters := e.waiters
    holders := e.holders.map (fun h => { station := h.station, grant := h.grant, term := h.remaining, deadline := 0, revocation := none }) }

/-- A resource entry loaded from a snapshot: the remaining term as term, the deadline from the APPLY's stamp (R119). -/
def LeaseContext.loadEntry (x : LeaseContext) (e : SnapEntry) : ResourceEntry :=
  { state := e.state, counter := e.counter, waiters := e.waiters
    holders := e.holders.map (fun h => x.newHolder h.station h.grant h.remaining) }

/-- Holder plus wait entries naming a station over a table (R5). -/
def entriesNaming (es : List ResourceEntry) (s : Station) : Nat :=
  (es.map (fun e => (e.holders.filter (fun h => h.station == s)).length + (e.waiters.filter (fun w => w.station == s)).length)).sum

/-- Wait entries over a table (R4). -/
def waitersIn (es : List ResourceEntry) : Nat := (es.map (fun e => e.waiters.length)).sum

/-- The replica loaded at the end of a join; `x.time` is the APPLY's stamp (R119 step 1, R33). Entries that go against R5 or R6 are loaded as the
table has them (DEDUCED, log 53); with more waiters than the pool has entries no free one is left. -/
def LeaseContext.loadReplica (x : LeaseContext) (b : Rebuild) (seq : Word16) (rep : Replica) : Replica :=
  let table := b.table.map x.loadEntry
  { rep with
    live := true
    table := table
    counts := Vector.ofFn (fun s => entriesNaming table.toList s)
    poolFree := Config.waitPoolSize - waitersIn table.toList
    seq := seq }

end Sys2Proof.Machine
end

