-- ==== Sys2Proof/Machine/Ops.lean ====
section
/-! DEFINITION. The named operations that every command's meaning is built from: reading the configuration and the time, placing
an event (R174, R175), the Transmit Queue's insertion, withdrawal, refresh and endings (R130 to R143), and small updates of the
roster. -/

namespace Sys2Proof.Machine

/-! ## Configuration and time -/

/-- What is read where there is no configuration record: every field 0 (log 20). -/
def ConfigRecord.absent : ConfigRecord :=
  { station := 0, rate := 0, beaconPeriod := 0, misses := 0, guard := 0, lastResource := 0, groupKey := 0, profile := 0 }

/-- The configuration in force. -/
def State.cfg (s : State) : ConfigRecord := s.config.getD ConfigRecord.absent

/-- This station's number. -/
def State.me (s : State) : Station := s.cfg.station

/-- The station's time (R59). -/
def State.now (s : State) : Tick := s.timebase.counter

/-- `n` beacon periods in fine ticks (R61). -/
def State.beaconPeriods (s : State) (n : Nat) : Tick := ltu (n * s.cfg.beaconPeriod.toNat)

/-- Misses × the beacon period (R86). -/
def State.presenceSpan (s : State) : Tick := s.beaconPeriods s.cfg.misses.toNat

/-- (station number + 1) quarter beacon periods (R61, R115). -/
def State.backoffSpan (s : State) : Tick := BitVec.ofNat 32 ((s.me.val + 1) * (16 * s.cfg.beaconPeriod.toNat))

/-- The lease context of a frame with an application time (R7). -/
def State.leaseContext (s : State) (time : Tick) : LeaseContext := { config := s.cfg, now := s.now, time := time }

/-- The table digest as it stands (R30). -/
def State.digest (s : State) : Word16 := s.replica.shown.digest s.config

/-! ## Events (R174, R175, R179) -/

/-- An event reaches the Host Port: appended, or dropped and counted where the Event Queue is full. -/
def HostPort.append (h : HostPort) (e : EventRecord) : HostPort :=
  if h.events.length < Config.eventQueueSize then { h with events := h.events ++ [e], attnN := false }
  else { h with dropped := min (h.dropped + 1) Config.byteCountMax }

/-- The oldest event raised and not yet appended reaches the Host Port, if there is one (R174, R197). -/
def HostPort.arrive (h : HostPort) : HostPort :=
  match h.raised with
  | [] => h
  | e :: es => { h with raised := es }.append e

/-- Every event raised so far reaches the Host Port, in order. -/
def HostPort.arriveAll (h : HostPort) : HostPort := h.raised.foldl HostPort.append { h with raised := [] }

/-- An event appended in the event that raises it, behind those raised before it, which arrive with it (R174, R197). -/
def HostPort.answer (h : HostPort) (e : EventRecord) : HostPort := h.arriveAll.append e

/-- A block raises an event: appended in the same event, or at a later one, as the choice left open falls (R197, log 7). -/
def HostPort.raise (h : HostPort) (e : EventRecord) : HostPort :=
  match h.later with
  | true :: rest => { h with raised := h.raised ++ [e], later := rest }
  | false :: rest => { h with later := rest }.answer e
  | [] => h.answer e

/-- With no command waiting, the oldest event raised reaches the Host Port (R197, log 2, log 7). -/
def State.idle (s : State) : State := { s with host := s.host.arrive }

/-- What a taking does, its answers placed in the event of the taking whatever the choice left open for other events (R170, R173). -/
def State.answering (s : State) (f : State → State) : State :=
  let t := f { s with host := { s.host with later := [] } }
  { t with host := { t.host with later := s.host.later } }

/-- Places an event. -/
def State.place (s : State) (e : EventRecord) : State := { s with host := s.host.raise e }

/-- Places an event for which a rule says that it is in the Event Queue in the event that raises it (R56, R73, R92, R95; log 7). -/
def State.placeAtOnce (s : State) (e : EventRecord) : State := { s with host := s.host.answer e }

/-- Places events in order. -/
def State.placeAll (s : State) (es : List EventRecord) : State := es.foldl State.place s

/-- An event about this station. -/
def State.stationEvent (s : State) (k : EventKind) (tag : Byte) (grant : Word16) (detail count : Byte) : EventRecord :=
  { kind := k, tag := tag, subject := stationByte s.me, grant := grant, detail := detail, count := count }

/-! ## Transmit Queue: groups, quotas, identities (R129, R130) -/

/-- The groups of frame kinds that are counted separately (R130). -/
inductive TxGroup where
  | membership | presence | stream | declinePlace | revocation | lease
  deriving DecidableEq, Repr

/-- The group of a kind (R130). -/
def FrameKind.group : FrameKind → TxGroup
  | .found | .apply | .quit | .depart => .membership
  | .beacon => .presence
  | .admitJoiner | .snapshot | .snapEnd => .stream
  | .decline => .declinePlace
  | .revoke => .revocation
  | .claim | .drop | .extend | .withdraw => .lease

/-- The quota of a group (R130). -/
def TxGroup.quota : TxGroup → Nat
  | .membership => 16
  | .presence => 1
  | .stream => 1
  | .declinePlace => 1
  | .revocation => 4
  | .lease => 8

/-- The block that inserts a kind (R130). -/
inductive Requester where
  | claimManager | replicaEngine | membershipUnit
  deriving DecidableEq, Repr

/-- The requester of a kind (R130). -/
def FrameKind.requester : FrameKind → Requester
  | .claim | .drop | .extend | .withdraw => .claimManager
  | .revoke => .replicaEngine
  | .found | .apply | .quit | .depart | .beacon | .admitJoiner | .snapshot | .snapEnd | .decline => .membershipUnit

/-- What identifies a frame (R129). -/
def Frame.id : Frame → FrameId
  | .found _ _ => .found
  | .apply _ _ => .apply
  | .quit => .quit
  | .depart d => .depart d
  | .beacon _ => .beacon
  | .admitJoiner _ _ _ _ _ => .stream
  | .snapshot _ _ => .stream
  | .snapEnd _ _ => .stream
  | .decline d => .decline d.joiner
  | .revoke r h g => .revoke r h g
  | .claim r _ _ _ => .claim r
  | .drop r _ => .drop r
  | .extend r _ _ => .extend r
  | .withdraw r => .withdraw r

/-- A new entry (R130). -/
def TxEntry.fresh (f : Frame) : TxEntry := { frame := f, inFlight := false, withdrawn := false, returnNotice := false, orphan := false }

/-- Entries counted in a group: those of its kinds that are no orphans (R130, R131). -/
def TransmitQueue.inGroup (q : TransmitQueue) (g : TxGroup) : List TxEntry :=
  q.entries.filter (fun e => !e.orphan && e.frame.kind.group == g)

/-- The entry of an identity, orphans left out (R142). -/
def TransmitQueue.find? (q : TransmitQueue) (id : FrameId) : Option TxEntry := q.entries.find? (fun e => !e.orphan && e.frame.id == id)

/-- The frame in flight, if any (R131). -/
def TransmitQueue.flying? (q : TransmitQueue) : Option TxEntry := q.entries.find? (fun e => e.inFlight)

/-- Insertion: QUEUED_OK (`true`) behind every entry in use, or NO_ROOM (`false`) where the group is at its quota or the identity
is in use (R130). -/
def TransmitQueue.insert (q : TransmitQueue) (f : Frame) : Bool × TransmitQueue :=
  if (q.inGroup f.kind.group).length < f.kind.group.quota && (q.find? f.id).isNone then (true, { q with entries := q.entries ++ [TxEntry.fresh f] })
  else (false, q)

/-- When the DECLINE place is free, the oldest pending DECLINE moves into it (R140). -/
def TransmitQueue.refillDecline (q : TransmitQueue) : TransmitQueue :=
  if (q.inGroup .declinePlace).isEmpty then
    match q.pendingDeclines with
    | [] => q
    | d :: ds => { q with entries := q.entries ++ [TxEntry.fresh (.decline d)], pendingDeclines := ds }
  else q

/-- A DECLINE goes to the pending set: it replaces an earlier one for the same joiner in its place, or comes last (R140). -/
def TransmitQueue.pend (q : TransmitQueue) (d : DeclineBody) : TransmitQueue :=
  if q.pendingDeclines.any (fun p => p.joiner == d.joiner) then
    { q with pendingDeclines := q.pendingDeclines.map (fun p => if p.joiner = d.joiner then d else p) }
  else { q with pendingDeclines := q.pendingDeclines ++ [d] }

/-- Hands over a DECLINE (R140): updates the one queued for the same joiner, else takes the free place, else joins
the pending set. -/
def TransmitQueue.handDecline (q : TransmitQueue) (d : DeclineBody) : TransmitQueue :=
  match q.find? (.decline d.joiner) with
  | some e =>
    if e.inFlight then q.pend d
    else { q with entries := q.entries.map (fun x => if !x.orphan && x.frame.id == .decline d.joiner then { x with frame := .decline d } else x) }
  | none =>
    if (q.inGroup .declinePlace).isEmpty then { q with entries := q.entries ++ [TxEntry.fresh (.decline d)] } else q.pend d

/-! ## Withdrawal and refresh (R135, R137) -/

/-- Answers to a withdrawal request (R135). -/
inductive TxAnswer where
  | removed | onLine | notFound
  deriving DecidableEq, Repr

/-- A withdrawal request (R135). A mark clears a return notice (R137); a removal may free the DECLINE place (R140). -/
def TransmitQueue.withdraw (q : TransmitQueue) (id : FrameId) : TxAnswer × TransmitQueue :=
  match q.find? id with
  | some e =>
    if e.inFlight then
      (.onLine, { q with entries := q.entries.map (fun x => if !x.orphan && x.frame.id == id then { x with withdrawn := true, returnNotice := false } else x) })
    else (.removed, { q with entries := q.entries.filter (fun x => x.orphan || x.frame.id != id) }.refillDecline)
  | none => if q.awaiting.contains id then (.onLine, q) else (.notFound, q)

/-- Answers to a refresh request (R137). -/
inductive RefreshAnswer where
  | refreshed | onLine | notFound
  deriving DecidableEq, Repr

/-- The BEACON with a new number and digest. -/
def Frame.renumber (f : Frame) (number : Byte) (digest : Word16) : Frame :=
  match f with
  | .beacon b => .beacon { b with number := number, digest := digest }
  | f => f

/-- A refresh request (R137): in flight, the return notice is set unless the entry is marked withdrawn. -/
def TransmitQueue.refresh (q : TransmitQueue) (number : Byte) (digest : Word16) : RefreshAnswer × TransmitQueue :=
  match q.find? .beacon with
  | some e =>
    if e.inFlight then
      (.onLine, { q with entries := q.entries.map (fun x => if !x.orphan && x.frame.id == .beacon then { x with returnNotice := !x.withdrawn } else x) })
    else
      (.refreshed, { q with entries := q.entries.map (fun x => if !x.orphan && x.frame.id == .beacon then { x with frame := x.frame.renumber number digest } else x) })
  | none => (.notFound, q)

/-! ## Offering a frame and its endings (R132, R133, R134, R136, R137, R143) -/

/-- The station states in which frames are offered (R132). -/
def StationState.offers : StationState → Bool
  | .listen | .founding | .joining | .catchup | .online | .leaving => true
  | .unconfigured | .offline | .mute => false

/-- The entries of the lowest-numbered class present have the candidate first (R133). -/
def TransmitQueue.candidate? (q : TransmitQueue) : Option TxEntry :=
  [0, 1, 2, 3].findSome? (fun c => q.entries.find? (fun e => e.frame.kind.cls == c))

/-- The candidate becomes the frame in flight, with the payload it goes out with (R133, R65). -/
def TransmitQueue.start (q : TransmitQueue) (id : FrameId) (f : Frame) : TransmitQueue :=
  { q with entries := q.entries.map (fun x => if x.frame.id = id then { x with frame := f, inFlight := true } else x) }

/-- What the Transmit Queue reports when an attempt ends without acceptance (R136, R137, R143). -/
inductive EndReport where
  | retry | discarded (id : FrameId) | returned | orphanEnded (id : FrameId)
  deriving DecidableEq, Repr

/-- The queue without its frame in flight. -/
def TransmitQueue.land (q : TransmitQueue) : TransmitQueue := { q with entries := q.entries.filter (fun x => !x.inFlight) }

/-- The attempt of the frame in flight ends in acceptance: the entry leaves; unless it is an orphan its identity awaits delivery
(R134, R142); the DECLINE place may be refilled (R140). -/
def TransmitQueue.accept (q : TransmitQueue) : TransmitQueue :=
  match q.flying? with
  | none => q
  | some e => { q.land with awaiting := if e.orphan then q.awaiting else q.awaiting ++ [e.frame.id] }.refillDecline

/-- The attempt ends in a veto or a lost arbitration: an orphan or a withdrawn frame is discarded; any other stays at its place (R134,
R136, R137, R143). -/
def TransmitQueue.lose (q : TransmitQueue) : EndReport × TransmitQueue :=
  match q.flying? with
  | none => (.retry, q)
  | some e =>
    if e.orphan then (.orphanEnded e.frame.id, q.land)
    else if e.withdrawn then (.discarded e.frame.id, q.land.refillDecline)
    else
      (if e.returnNotice then .returned else .retry,
       { q with entries := q.entries.map (fun x => if x.inFlight then { x with inFlight := false, returnNotice := false } else x) })

/-- A frame of this station has been delivered inward (R134). -/
def TransmitQueue.delivered (q : TransmitQueue) (id : FrameId) : TransmitQueue := { q with awaiting := q.awaiting.erase id }

/-- A station clear empties the queue but for the frame in flight, which becomes an orphan marked withdrawn (R142). -/
def TransmitQueue.cleared (q : TransmitQueue) : TransmitQueue :=
  { entries := (q.entries.filter (fun x => x.inFlight)).map (fun x => { x with withdrawn := true, orphan := true, returnNotice := false })
    pendingDeclines := []
    awaiting := [] }

/-! ## The same, on the whole state -/

/-- A block inserts a frame; the quotas match what the owners queue at once (R130). -/
def State.queueFrame (s : State) (f : Frame) : State := { s with tx := (s.tx.insert f).2 }

/-- A block asks for a withdrawal and takes the answer. -/
def State.withdrawFrame (s : State) (id : FrameId) : TxAnswer × State := ((s.tx.withdraw id).1, { s with tx := (s.tx.withdraw id).2 })

/-- Withdrawal requests whose answers nobody waits for (R25: the holder entry no longer matters). -/
def State.withdrawAll (s : State) (ids : List FrameId) : State := ids.foldl (fun s id => (s.withdrawFrame id).2) s

/-- Queues a BEACON with the beacon counter's value and a digest (R83, R30). The stamp and states are put in at the start bit (R65). -/
def State.queueBeacon (s : State) : State :=
  s.queueFrame (.beacon { number := s.member.beaconCounter, stamp := 0, stationState := 0, timebaseState := 0, digest := s.digest, profile := s.cfg.profile })

/-- Queues REVOKE frames for MARKED entries, in order, until an insertion is answered NO_ROOM (R24, R138). -/
def State.queueRevokes (s : State) : List (Nat × Holder) → State
  | [] => s
  | (r, h) :: rest =>
    let ins := s.tx.insert (.revoke (BitVec.ofNat 8 r) h.station h.grant)
    if ins.1 then { s with tx := ins.2, replica := s.replica.setRevocation r h.station .queued }.queueRevokes rest else s

/-- Room in the revocation group is used while the station is ONLINE (R24, R138). -/
def State.serviceRevocations (s : State) : State := if s.member.state = .online then s.queueRevokes s.replica.marked else s

/-! ## Roster (R79, R80, R81) -/

/-- The roster entry of a station. -/
def State.peer (s : State) (p : Station) : RosterEntry := s.member.roster[p]

/-- Replaces a roster entry. -/
def State.setPeer (s : State) (p : Station) (e : RosterEntry) : State := { s with member := { s.member with roster := s.member.roster.set p e } }

/-- An entry leaving ABSENT (R80, R66). -/
def RosterEntry.enter (e : RosterEntry) (st : RosterState) (inc : Option Word16) : RosterEntry :=
  { e with state := st, incarnation := inc, beacon := none, reportedState := none, reportedTimebase := none, outliers := 0, lastHeard := none,
           presence := none, departQueued := false, divergence := false }

/-- An entry becoming ABSENT loses every optional field but the incarnation; its outlier count is 0 and its divergence flag clear while
ABSENT (R79, R80). Its departure state is left to R90 and R91. -/
def RosterEntry.depart (e : RosterEntry) : RosterEntry :=
  { e with state := .absent, beacon := none, reportedState := none, reportedTimebase := none, outliers := 0, lastHeard := none,
           presence := none, divergence := false }

/-- An entry after a station clear, or when a loaded roster is discarded: ABSENT, departure state NONE, its incarnation kept (R96, R121). -/
def RosterEntry.discard (e : RosterEntry) : RosterEntry := { RosterEntry.clear with incarnation := e.incarnation }

/-- Whether an entry is JOINING or ONLINE. -/
def RosterEntry.present (e : RosterEntry) : Bool := e.state != .absent

/-- The ONLINE peer count (R80). -/
def State.onlinePeers (s : State) : Nat :=
  ((List.finRange 16).filter (fun p => p != s.me && (s.peer p).state == .online)).length

/-- The station with the lowest number whose entry is ONLINE: the admitter of a decision (R108). -/
def State.lowestOnline (s : State) : Option Station := (List.finRange 16).find? (fun p => (s.peer p).state == .online)

end Sys2Proof.Machine
end

