-- ==== Sys2Proof/Machine/Claims.lean ====
section
/-! DEFINITION. The Claim Manager (spec/02): its slots, how they follow the Replica Engine's reports, the fate of withdrawn frames,
self-expiry, and the acting on lease commands that have passed the Command Engine's checks. -/

namespace Sys2Proof.Machine

/-! ## Slots -/

/-- A claim slot. -/
def State.slot (s : State) (i : Fin 8) : Slot := s.claims[i]

/-- Replaces a claim slot. -/
def State.setSlot (s : State) (i : Fin 8) (sl : Slot) : State := { s with claims := s.claims.set i sl }

/-- The non-EMPTY slot of a resource, if any (R35). -/
def State.findSlot (s : State) (r : ResNo) : Option (Fin 8) :=
  (List.finRange 8).find? (fun i => (s.slot i).state != .empty && (s.slot i).resource == r)

/-- The first EMPTY slot (R39; which one cannot be seen from outside, log 9). -/
def State.emptySlot (s : State) : Option (Fin 8) := (List.finRange 8).find? (fun i => (s.slot i).state == .empty)

/-- How many slots are non-EMPTY (R58). -/
def State.busySlots (s : State) : Nat := ((List.finRange 8).filter (fun i => (s.slot i).state != .empty)).length

/-- The count of non-EMPTY slots as LEFT and EVICTED carry it. -/
def State.busyCount (s : State) : Byte := BitVec.ofNat 8 s.busySlots

/-- A fresh frame marker. -/
def FrameMarker.of (k : LeaseKind) : FrameMarker := { kind := k, withdrawn := false, dropFollows := false }

/-- The kind of frame a marker names. -/
def LeaseKind.frameKind : LeaseKind → FrameKind
  | .claim => .claim
  | .extend => .extend
  | .drop => .drop
  | .withdraw => .withdraw

/-- The identity of a slot's frame (R129). -/
def LeaseKind.id (k : LeaseKind) (r : ResNo) : FrameId :=
  match k with
  | .claim => .claim r
  | .extend => .extend r
  | .drop => .drop r
  | .withdraw => .withdraw r

/-- The marker's kind, if the slot has a frame. -/
def Slot.frameKind (sl : Slot) : Option LeaseKind := sl.marker.map (·.kind)

/-- The slot with its frame marked withdrawn. -/
def Slot.markWithdrawn (sl : Slot) : Slot := { sl with marker := sl.marker.map (fun m => { m with withdrawn := true }) }

/-- A CANCEL is pending on the slot. -/
def Slot.cancelPending (sl : Slot) : Bool := match sl.command with | some (.cancel, _) => true | _ => false

/-- The pending command's tag. -/
def Slot.commandTag (sl : Slot) : Byte := match sl.command with | some (_, t) => t | none => 0

/-- The slot's grant number, 0 where it has none. -/
def Slot.grantNumber (sl : Slot) : Word16 := sl.grant.getD 0

/-! ## Answers and LOST events (R37) -/

/-- An event about the slot's resource. -/
def Slot.event (sl : Slot) (k : EventKind) (tag : Byte) (grant : Word16) (detail count : Byte) : EventRecord :=
  { kind := k, tag := tag, subject := sl.resource, grant := grant, detail := detail, count := count }

def Slot.granted (sl : Slot) (g : Word16) : EventRecord := sl.event .granted sl.tag g 0 0
def Slot.queued (sl : Slot) (position : Nat) : EventRecord := sl.event .queued sl.tag 0 0 (BitVec.ofNat 8 position)
def Slot.denied (sl : Slot) (detail : Byte) : EventRecord := sl.event .denied sl.tag 0 detail 0
def Slot.cancelled (sl : Slot) : EventRecord := sl.event .cancelled sl.tag 0 0 0
def Slot.cancelDone (sl : Slot) (g : Word16) (detail : Byte) : EventRecord := sl.event .cancelDone sl.commandTag g detail 0
def Slot.released (sl : Slot) (g : Word16) (detail : Byte) : EventRecord := sl.event .released sl.commandTag g detail 0
def Slot.renewed (sl : Slot) (g : Word16) : EventRecord := sl.event .renewed sl.commandTag g 0 0
def Slot.renewLate (sl : Slot) (detail : Byte) : EventRecord := sl.event .renewLate sl.commandTag sl.grantNumber detail 0
def Slot.lost (sl : Slot) (g : Word16) (detail : Byte) : EventRecord := sl.event .lost sl.tag g detail 0

/-- The answer to follow, as an event (R56). -/
def Slot.following (sl : Slot) : List EventRecord :=
  match sl.answer with
  | none => []
  | some .renewLateRevoked => [sl.renewLate detailLateRevoked]
  | some .releasedRevokedFirst => [sl.released sl.grantNumber detailRevokedFirst]
  | some .cancelDoneAfterGrant => [sl.cancelDone sl.grantNumber detailAfterGrant]

/-- A slot becomes EMPTY by clearing all its fields but the state (R34), and events are placed. -/
def State.endSlot (s : State) (i : Fin 8) (es : List EventRecord) : State := (s.setSlot i Slot.clear).placeAll es

/-- The frame of an ENDING slot has left the line: the slot becomes EMPTY, and in the same event its answer to follow is placed (R56, log 7). -/
def State.endEnding (s : State) (i : Fin 8) (sl : Slot) : State := sl.following.foldl State.placeAtOnce (s.setSlot i Slot.clear)

/-! ## Self-expiry deadline (R42, R74) -/

/-- The self-expiry deadline: application time plus term, less the guard when LOCKED, less twice the guard otherwise (R42). -/
def State.selfExpiryAt (s : State) (time : Tick) (term : Word16) : Tick :=
  time + ltu term.toNat - ltu (match s.timebase.state with | .locked => s.cfg.guardLtu | .free | .tracking => 2 * s.cfg.guardLtu)

/-- The slot with a grant recorded and its self-expiry deadline set (R40, R41, R52, R53). -/
def State.withGrant (s : State) (sl : Slot) (g term : Word16) (time : Tick) : Slot :=
  { sl with grant := some g, deadline := some (s.selfExpiryAt time term) }

/-! ## The slot's frame -/

/-- The slot's next frame is queued and named by its marker (R35). -/
def State.queueSlotFrame (s : State) (i : Fin 8) (sl : Slot) (k : LeaseKind) (f : Frame) : State :=
  (s.queueFrame f).setSlot i { sl with marker := some (FrameMarker.of k) }

/-- Queues a DROP of a grant number for the slot. -/
def State.queueDrop (s : State) (i : Fin 8) (sl : Slot) (g : Word16) : State := s.queueSlotFrame i sl .drop (.drop sl.resource g)

/-- Queues a WITHDRAW for the slot. -/
def State.queueWithdraw (s : State) (i : Fin 8) (sl : Slot) : State := s.queueSlotFrame i sl .withdraw (.withdraw sl.resource)

/-- Asks for the withdrawal of the slot's frame; `true` when it is on the line (R36). A frame that is not found is gone (R135, log 18). -/
def State.withdrawSlotFrame (s : State) (sl : Slot) : Bool × State :=
  match sl.frameKind with
  | none => (false, s)
  | some k =>
    let a := s.withdrawFrame (k.id sl.resource)
    (match a.1 with | .onLine => true | .removed | .notFound => false, a.2)

/-- The holding has ended while a frame of the slot is out: the frame is withdrawn; REMOVED ends the slot with the events, ON_LINE makes
it ENDING with the answer to follow (R47, R50, R54, R55). -/
def State.endHeldSlot (s : State) (i : Fin 8) (sl : Slot) (answer : Option FollowingAnswer) : State :=
  let w := s.withdrawSlotFrame sl
  if w.1 then w.2.setSlot i { sl.markWithdrawn with state := .ending, answer := answer, marker := sl.markWithdrawn.marker.map (fun m => { m with dropFollows := false }) }
  else w.2.endSlot i ({ sl with answer := answer }.following)

/-! ## Reports, by slot state (R40 to R56) -/

/-- SENDING (R40, R52). -/
def State.reportSending (s : State) (i : Fin 8) (sl : Slot) : Report → State
  | .granted _ g term time =>
    let held := s.withGrant sl g term time
    if sl.cancelPending then (s.place (sl.granted g)).queueDrop i { held with state := .withdrawing } g
    else (s.setSlot i { held with state := .held, marker := none }).place (sl.granted g)
  | .queued _ pos =>
    if sl.cancelPending then (s.place (sl.queued pos)).queueWithdraw i { sl with state := .withdrawing }
    else (s.setSlot i { sl with state := .waiting, marker := none }).place (sl.queued pos)
  | .denied _ =>
    s.endSlot i (if sl.cancelPending then [sl.denied detailDeniedNone, sl.cancelDone 0 detailAfterDenial] else [sl.denied detailDeniedNone])
  | .rejected _ k =>
    if k = .claim then
      s.endSlot i (if sl.cancelPending then [sl.denied detailDeniedRejected, sl.cancelDone 0 detailAfterDenial] else [sl.denied detailDeniedRejected])
    else s
  | .dropApplied _ _ | .dropStale _ | .extendApplied _ _ _ _ | .extendStale _ | .withdrawFromWait _ | .withdrawAsDrop _ _ | .withdrawStale _
  | .revoked _ _ => s

/-- WAITING (R41). -/
def State.reportWaiting (s : State) (i : Fin 8) (sl : Slot) : Report → State
  | .granted _ g term time => (s.setSlot i { s.withGrant sl g term time with state := .held }).place (sl.granted g)
  | .queued _ _ | .denied _ | .rejected _ _ | .dropApplied _ _ | .dropStale _ | .extendApplied _ _ _ _ | .extendStale _ | .withdrawFromWait _
  | .withdrawAsDrop _ _ | .withdrawStale _ | .revoked _ _ => s

/-- HELD (R44). -/
def State.reportHeld (s : State) (i : Fin 8) (sl : Slot) : Report → State
  | .revoked _ g => s.endSlot i [sl.lost g detailLostRevoked]
  | .granted _ _ _ _ | .queued _ _ | .denied _ | .rejected _ _ | .dropApplied _ _ | .dropStale _ | .extendApplied _ _ _ _ | .extendStale _
  | .withdrawFromWait _ | .withdrawAsDrop _ _ | .withdrawStale _ => s

/-- RENEWING (R46, R47). -/
def State.reportRenewing (s : State) (i : Fin 8) (sl : Slot) : Report → State
  | .extendApplied _ g term time =>
    (s.setSlot i { s.withGrant sl g term time with state := .held, term := term, command := none, marker := none }).place (sl.renewed g)
  | .revoked _ g => (s.place (sl.lost g detailLostRevoked)).endHeldSlot i sl (some .renewLateRevoked)
  | .extendStale _ => s.endSlot i [sl.lost sl.grantNumber detailLostRevoked, sl.renewLate detailLateRevoked]
  | .rejected _ k =>
    if k = .extend then (s.setSlot i { sl with state := .held, command := none, marker := none }).place (sl.renewLate detailLateRejected) else s
  | .granted _ _ _ _ | .queued _ _ | .denied _ | .dropApplied _ _ | .dropStale _ | .withdrawFromWait _ | .withdrawAsDrop _ _ | .withdrawStale _ => s

/-- RELEASING (R50). -/
def State.reportReleasing (s : State) (i : Fin 8) (sl : Slot) : Report → State
  | .dropApplied _ g => s.endSlot i [sl.released g detailDropped]
  | .revoked _ _ => s.endHeldSlot i sl (some .releasedRevokedFirst)
  | .dropStale _ => s.endSlot i [sl.released sl.grantNumber detailRevokedFirst]
  | .rejected _ k => if k = .drop then s.queueDrop i sl sl.grantNumber else s
  | .granted _ _ _ _ | .queued _ _ | .denied _ | .extendApplied _ _ _ _ | .extendStale _ | .withdrawFromWait _ | .withdrawAsDrop _ _ | .withdrawStale _ => s

/-- WITHDRAWING with a WITHDRAW as the slot's frame (R53). -/
def State.reportWithdrawing (s : State) (i : Fin 8) (sl : Slot) : Report → State
  | .granted _ g term time => (s.setSlot i (s.withGrant sl g term time)).place (sl.granted g)
  | .withdrawFromWait _ => s.endSlot i [sl.cancelled, sl.cancelDone 0 detailFromWait]
  | .withdrawAsDrop _ g => s.endSlot i [sl.cancelDone g detailAfterGrant]
  | .withdrawStale _ =>
    s.endSlot i (match sl.grant with
      | some g => [sl.cancelDone g detailAfterGrant]
      | none => [sl.cancelled, sl.cancelDone 0 detailFromWait])
  | .rejected _ k => if k = .withdraw then s.queueWithdraw i sl else s
  | .revoked _ _ => if sl.grant.isSome then s.endHeldSlot i sl (some .cancelDoneAfterGrant) else s
  | .queued _ _ | .denied _ | .dropApplied _ _ | .dropStale _ | .extendApplied _ _ _ _ | .extendStale _ => s

/-- WITHDRAWING with a DROP as the slot's frame (R54). -/
def State.reportWithdrawingDrop (s : State) (i : Fin 8) (sl : Slot) : Report → State
  | .dropApplied _ g => s.endSlot i [sl.cancelDone g detailAfterGrant]
  | .dropStale _ => s.endSlot i [sl.cancelDone sl.grantNumber detailAfterGrant]
  | .rejected _ k => if k = .drop then s.queueDrop i sl sl.grantNumber else s
  | .revoked _ _ => if sl.grant.isSome then s.endHeldSlot i sl (some .cancelDoneAfterGrant) else s
  | .granted _ _ _ _ | .queued _ _ | .denied _ | .extendApplied _ _ _ _ | .extendStale _ | .withdrawFromWait _ | .withdrawAsDrop _ _ | .withdrawStale _ => s

/-- LAPSED with a DROP as the slot's frame (R55). -/
def State.reportLapsedDrop (s : State) (i : Fin 8) (sl : Slot) : Report → State
  | .dropApplied _ _ | .dropStale _ => s.endSlot i []
  | .revoked _ _ => s.endHeldSlot i sl none
  | .rejected _ k => if k = .drop then s.queueDrop i sl sl.grantNumber else s
  | .granted _ _ _ _ | .queued _ _ | .denied _ | .extendApplied _ _ _ _ | .extendStale _ | .withdrawFromWait _ | .withdrawAsDrop _ _ | .withdrawStale _ => s

/-- LAPSED with an EXTEND on the line and a DROP to follow (R55). -/
def State.reportLapsedExtend (s : State) (i : Fin 8) (sl : Slot) : Report → State
  | .extendApplied _ g term _ => s.queueDrop i { sl with grant := some g, term := term } g
  | .rejected _ k => if k = .extend then s.queueDrop i sl sl.grantNumber else s
  | .revoked _ _ => s.setSlot i { sl with state := .ending, answer := none, marker := sl.marker.map (fun m => { m with dropFollows := false }) }
  | .extendStale _ => s.endSlot i []
  | .granted _ _ _ _ | .queued _ _ | .denied _ | .dropApplied _ _ | .dropStale _ | .withdrawFromWait _ | .withdrawAsDrop _ _ | .withdrawStale _ => s

/-- Whether a report completes a frame of a kind as stale or rejected (R56). -/
def Report.completes (rep : Report) (k : LeaseKind) : Bool :=
  match rep, k with
  | .extendStale _, .extend | .dropStale _, .drop | .withdrawStale _, .withdraw => true
  | .rejected _ fk, k => fk == k.frameKind
  | _, _ => false

/-- ENDING (R56). -/
def State.reportEnding (s : State) (i : Fin 8) (sl : Slot) (rep : Report) : State :=
  match sl.frameKind with
  | some k => if rep.completes k then s.endEnding i sl else s
  | none => s

/-- A report at the slot of its resource; with no slot, or in a state for which no rule gives it an effect, nothing changes (R57). -/
def State.claimReport (s : State) (rep : Report) : State :=
  match s.findSlot rep.resource with
  | none => s
  | some i =>
    let sl := s.slot i
    match sl.state with
    | .empty => s
    | .sending => s.reportSending i sl rep
    | .waiting => s.reportWaiting i sl rep
    | .held => s.reportHeld i sl rep
    | .renewing => s.reportRenewing i sl rep
    | .releasing => s.reportReleasing i sl rep
    | .withdrawing =>
      match sl.frameKind with
      | some .drop => s.reportWithdrawingDrop i sl rep
      | _ => s.reportWithdrawing i sl rep
    | .lapsed =>
      match sl.frameKind with
      | some .extend => s.reportLapsedExtend i sl rep
      | _ => s.reportLapsedDrop i sl rep
    | .ending => s.reportEnding i sl rep

/-- Reports in the order they are raised (R7, R9). -/
def State.claimReports (s : State) (reps : List Report) : State := reps.foldl State.claimReport s

/-! ## DISCARDED (R36, R52, R55, R56) -/

/-- A withdrawn frame of a slot has been discarded. -/
def State.claimDiscarded (s : State) (k : LeaseKind) (r : ResNo) : State :=
  match s.findSlot r with
  | none => s
  | some i =>
    let sl := s.slot i
    if sl.frameKind = some k then
      match sl.state with
      | .sending =>
        if sl.cancelPending then s.endSlot i [sl.cancelled, sl.cancelDone 0 detailBeforeLine] else s
      | .lapsed => if k = .extend then s.queueDrop i sl sl.grantNumber else s
      | .ending => s.endEnding i sl
      | .empty | .waiting | .held | .renewing | .releasing | .withdrawing => s
    else s

/-! ## Self-expiry (R43, R48) -/

/-- The self-expiry deadline of a slot is reached. -/
def State.selfExpire (s : State) (i : Fin 8) : State :=
  let sl := s.slot i
  match sl.state with
  | .held => (s.place (sl.lost sl.grantNumber detailLostLapsed)).queueDrop i { sl with state := .lapsed } sl.grantNumber
  | .renewing =>
    let told := (s.place (sl.lost sl.grantNumber detailLostLapsed)).place (sl.renewLate detailLateLapsed)
    let lapsed := { sl with state := .lapsed, command := none }
    let w := told.withdrawSlotFrame sl
    if w.1 then w.2.setSlot i { lapsed with marker := some { kind := .extend, withdrawn := true, dropFollows := true } }
    else w.2.queueDrop i lapsed sl.grantNumber
  | .empty | .sending | .waiting | .releasing | .withdrawing | .lapsed | .ending => s

/-! ## Lease commands that passed the Command Engine's checks (R38, R39, R45, R49, R51) -/

/-- ACQUIRE fills a slot and queues its CLAIM (R39); no EMPTY slot is SLOTS, a slot for the resource ALREADY (R38). -/
def State.actAcquire (s : State) (r : CommandRecord) : Except RefusedReason State :=
  match s.emptySlot with
  | none => .error .slots
  | some i =>
    if (s.findSlot r.p1).isSome then .error .already
    else
      .ok (s.queueSlotFrame i { Slot.clear with state := .sending, resource := r.p1, term := r.term, tag := r.tag } .claim
        (.claim r.p1 r.noWait r.modeCode r.term))

/-- RENEW on a HELD slot queues an EXTEND (R45). -/
def State.actRenew (s : State) (r : CommandRecord) : Except RefusedReason State :=
  match s.findSlot r.p1 with
  | none => .error .notHeld
  | some i =>
    let sl := s.slot i
    match sl.state with
    | .held => .ok (s.queueSlotFrame i { sl with state := .renewing, command := some (.renew, r.tag) } .extend (.extend r.p1 sl.grantNumber r.term))
    | .empty | .sending | .waiting => .error .notHeld
    | .renewing | .releasing | .withdrawing | .lapsed | .ending => .error .busySlot

/-- RELEASE on a HELD slot queues a DROP (R49). -/
def State.actRelease (s : State) (r : CommandRecord) : Except RefusedReason State :=
  match s.findSlot r.p1 with
  | none => .error .notHeld
  | some i =>
    let sl := s.slot i
    match sl.state with
    | .held => .ok (s.queueDrop i { sl with state := .releasing, command := some (.release, r.tag) } sl.grantNumber)
    | .empty | .sending | .waiting => .error .notHeld
    | .renewing | .releasing | .withdrawing | .lapsed | .ending => .error .busySlot

/-- CANCEL on a SENDING slot withdraws its CLAIM, on a WAITING slot queues a WITHDRAW (R51). -/
def State.actCancel (s : State) (r : CommandRecord) : Except RefusedReason State :=
  match s.findSlot r.p1 with
  | none => .error .notWaiting
  | some i =>
    let sl := s.slot i
    let asked := { sl with command := some (.cancel, r.tag) }
    match sl.state with
    | .sending =>
      if sl.cancelPending then .error .busySlot
      else
        let w := s.withdrawSlotFrame sl
        if w.1 then .ok (w.2.setSlot i asked.markWithdrawn)
        else .ok (w.2.endSlot i [asked.cancelled, asked.cancelDone 0 detailBeforeLine])
    | .waiting => .ok (s.queueWithdraw i { asked with state := .withdrawing })
    | .empty | .held | .renewing | .releasing | .lapsed => .error .notWaiting
    | .withdrawing | .ending => .error .busySlot

end Sys2Proof.Machine
end

