-- ==== Sys2Proof/Machine/Time.lean ====
section
/-! DEFINITION. The Timebase (spec/03): the fine tick, samples, the discipline round and its end, and what a station clear and a
CONFIGURE do to it. -/

namespace Sys2Proof.Machine

/-- The end of a fine tick: the counter advances, and the next fine tick starts with the trim added to the phase residue, each whole
256 of which is one reference cycle more or less (R59, R60). -/
def Timebase.tick (t : Timebase) : Timebase :=
  let sum := t.residue + t.trim
  { t with counter := t.counter + 1, residue := sum.tmod 256, tickCycles := (256 + sum.tdiv 256).toNat }

/-! ## Samples (R67, R68, R69) -/

/-- A sample is an outlier when S is 0, or 2^31 or more, or when 250 × |L − S| is greater than S (R68). -/
def outlier (l s : Tick) : Bool := s == 0 || s.msb || s.toNat < 250 * ((l.toNat : Int) - s.toNat).natAbs

/-- A sample's error in 1/256 of a step: (L − S) × 65536 / S, rounded toward zero (R68). -/
def sampleError (l s : Tick) : Int := (((l.toNat : Int) - s.toNat) * 65536 * 256).tdiv s.toNat

/-- An error handed to the round accumulator; a round with 255 samples takes no more (R69). -/
def Timebase.sample (t : Timebase) (err : Int) : Timebase :=
  if t.count < Config.byteCountMax then { t with sum := t.sum + err, count := t.count + 1 } else t

/-! ## The discipline round (R70, R71, R72) -/

/-- The mean error in whole steps, rounded toward zero (R71). -/
def Timebase.mean (t : Timebase) : Int := t.sum.tdiv (256 * t.count)

/-- Limits a value to a range. -/
def clampInt (lo hi x : Int) : Int := max lo (min hi x)

/-- The trim after a round end (R71). -/
def Timebase.corrected (t : Timebase) : Int :=
  if t.count = 0 then t.trim
  else clampInt Config.trimMin Config.trimMax (t.trim + clampInt (-Config.correctionMax) Config.correctionMax t.mean)

/-- Whether the round had samples and a mean of at most 2 steps (R72). -/
def Timebase.quietRound (t : Timebase) : Bool := t.count != 0 && t.mean.natAbs ≤ 2

/-- The timebase state after a round end: the first row of R72's table that applies. -/
def Timebase.nextState (t : Timebase) : TimebaseState :=
  if t.count = 0 then .free
  else if t.mean.natAbs ≤ 2 && t.quiet then .locked
  else if 8 < t.mean.natAbs then .tracking
  else match t.state with
    | .free => .tracking
    | .tracking => .tracking
    | .locked => .locked

/-- A round end at deadline `d`; the next round ends `span` later (R70, R71, R72). -/
def Timebase.endRound (t : Timebase) (d span : Tick) : Timebase :=
  { t with trim := t.corrected, sum := 0, count := 0, quiet := t.quietRound, state := t.nextState, roundDeadline := some (d + span) }

/-- The TIMEBASE event of a change to a state, with the trim and a sample count (R73). -/
def State.timebaseEvent (s : State) (st : TimebaseState) (trim : Int) (count : Nat) : EventRecord :=
  s.stationEvent .timebase 0 (BitVec.ofInt 16 trim) (BitVec.ofNat 8 st.code) (BitVec.ofNat 8 count)

/-- A TIMEBASE event is raised whenever the state enters or leaves LOCKED; it is in the Event Queue in the event of the change (R73). -/
def lockChanged (before after : TimebaseState) : Bool := (before == .locked) != (after == .locked)

/-- The length of a discipline round: 8 beacon periods (R70). -/
def State.roundSpan (s : State) : Tick := s.beaconPeriods 8

/-- The Timebase as a round end finds it: a round that ends in another state than ONLINE ends with no samples, those left from ONLINE included (R70, R72). -/
def State.endingRound (s : State) : Timebase := if s.member.state = .online then s.timebase else { s.timebase with sum := 0, count := 0 }

/-- The discipline round deadline is reached (R70, R71, R72, R73). -/
def State.endRound (s : State) (d : Tick) : State :=
  let t := s.endingRound
  let t' := t.endRound d s.roundSpan
  let s' := { s with timebase := t' }
  if lockChanged t.state t'.state then s'.placeAtOnce (s.timebaseEvent t'.state t'.trim t.count) else s'

/-- A CONFIGURE abandons the current round and starts a new one from now (R70). -/
def State.restartRound (s : State) : State :=
  { s with timebase := { s.timebase with sum := 0, count := 0, roundDeadline := some (s.now + s.roundSpan) } }

/-- A station clear at the Timebase; the change from LOCKED raises TIMEBASE with count 0 and the kept trim (R73, R78). -/
def State.clearTimebase (s : State) : State :=
  let s' := { s with timebase := { s.timebase with state := .free, quiet := false, sum := 0, count := 0, roundDeadline := some (s.now + s.roundSpan) } }
  if s.timebase.state = .locked then s'.placeAtOnce (s.timebaseEvent .free s.timebase.trim 0) else s'

end Sys2Proof.Machine
end

