-- ==== Sys2Proof/Machine/Clock.lean ====
section
/-! DEFINITION. The meanings of DEVICE_RESET and FINE_TICK. -/

namespace Sys2Proof.Machine

/-- A transaction that the port had taken is cut off; CS_N stays low (R167, R186). One already void or cut off stays so. -/
def Transaction.cut (t : Transaction) : Transaction :=
  { standing := if t.standing = .taken then .cutOff else t.standing
    portByte := 0, access := none, mosi := [], answer := [], place := false, record := false, sdo := [] }

/-- The Host Port in a device reset: SDO at high impedance, a transaction cut off, RST_N at the level its edge takes it to (R186). -/
def HostPort.resetEdge (h : HostPort) : HostPort :=
  { HostPort.reset with rstN := !h.rstN, transaction := h.transaction.map Transaction.cut, later := h.later }

/-- DEVICE_RESET: every block takes the values of a device reset, as RST_N falls and again as it returns high, since the part holds them in
between (R32, R58, R75, R96, R97, R144, R165, R186; log 19). -/
def execDeviceReset (s : State) : Host.Outcome State Fault Refusal :=
  .next { State.reset with pending := s.pending, host := s.host.resetEdge }

/-- FINE_TICK: the fine tick in progress ends (R59, R60), and the incarnation counter advances (R97). The fine-tick counter begins to count once RST_N is
high again, so with RST_N low nothing counts (R59, R186). -/
def execFineTick (s : State) : Host.Outcome State Fault Refusal :=
  .next (if s.host.rstN then
    { s with
      timebase := s.timebase.tick
      member := { s.member with incarnationCounter := s.member.incarnationCounter + 1 } }
  else s)

end Sys2Proof.Machine
end

