-- ==== Sys2Proof/Machine/Members.lean ====
section
/-! DEFINITION. The Membership Unit's shared operations (spec/04, spec/05): the own membership frame, the beacon schedule, presence,
station clear, entering LEAVING, MUTE and ONLINE, failed attempts, admissions, the capture and its stream. -/

namespace Sys2Proof.Machine

/-! ## The own membership frame (R97) -/

/-- The frame of an own membership kind, with the incarnation and profile digest in force (R99). -/
def State.ownFrame (s : State) : OwnKind → Frame
  | .found => .found (s.member.incarnation.getD 0) s.cfg.profile
  | .apply => .apply (s.member.incarnation.getD 0) s.cfg.profile
  | .quit => .quit

/-- Its identity (R129). -/
def OwnKind.id : OwnKind → FrameId
  | .found => .found
  | .apply => .apply
  | .quit => .quit

/-- The own kind of an identity. -/
def OwnKind.ofId : FrameId → Option OwnKind
  | .found => some .found
  | .apply => some .apply
  | .quit => some .quit
  | .claim _ | .drop _ | .extend _ | .withdraw _ | .revoke _ _ _ | .depart _ | .beacon | .stream | .decline _ => none

/-- Queues an own membership frame, or records it as the frame to follow while another is out (R97). -/
def State.queueOwn (s : State) (k : OwnKind) : State :=
  match s.member.own with
  | none =>
    let q := s.queueFrame (s.ownFrame k)
    { q with member := { q.member with own := some { kind := k, withdrawn := false, next := none } } }
  | some o => { s with member := { s.member with own := some { o with next := some k } } }

/-- The own membership frame has left the Transmit Queue: the frame to follow, if any, is queued (R97). -/
def State.ownLeft (s : State) : State :=
  match s.member.own with
  | none => s
  | some o =>
    let t := { s with member := { s.member with own := none } }
    match o.next with
    | none => t
    | some k => t.queueOwn k

/-- Asks for the withdrawal of the own membership frame; `true` when it is on the line. Removed or not found, it is gone. -/
def State.withdrawOwn (s : State) : Bool × State :=
  match s.member.own with
  | none => (false, s)
  | some o =>
    let a := s.withdrawFrame o.kind.id
    match a.1 with
    | .onLine => (true, { a.2 with member := { a.2.member with own := some { o with withdrawn := true } } })
    | .removed | .notFound => (false, { a.2 with member := { a.2.member with own := none } })

/-- Draws an incarnation: the incarnation counter, one more if it equals the last drawn (R100, R123). -/
def State.drawIncarnation (s : State) : State :=
  let v := s.member.incarnationCounter
  { s with member := { s.member with incarnation := some (if s.member.incarnation = some v then v + 1 else v) } }

/-! ## The beacon schedule (R82) -/

/-- The states in which the beacon schedule runs. -/
def StationState.beacons : StationState → Bool
  | .founding | .joining | .catchup | .online => true
  | .unconfigured | .offline | .listen | .mute | .leaving => false

/-- Enters FOUNDING or JOINING: the schedule starts if the station comes from outside the four states (R82). -/
def State.enterBeaconing (s : State) (st : StationState) : State :=
  { s with member := { s.member with
      state := st
      beaconDeadline := if s.member.state.beacons then s.member.beaconDeadline else some (s.now + s.beaconPeriods 1) } }

/-- Stops the schedule: deadline and pending firing removed, the BEACON withdrawn (R82). -/
def State.stopBeacons (s : State) : State :=
  ({ s with member := { s.member with beaconDeadline := none, beaconPending := false } }.withdrawFrame .beacon).2

/-! ## Presence (R86, R87, R89) -/

/-- Removes every presence deadline (R87). -/
def State.clearPresence (s : State) : State :=
  { s with member := { s.member with roster := s.member.roster.map (fun e => { e with presence := none }) } }

/-- Entering ONLINE: every peer entry JOINING or ONLINE with departure state NONE takes a presence deadline from now (R87). -/
def State.startPresence (s : State) : State :=
  { s with member := { s.member with
      roster := Vector.ofFn (fun p =>
        let e := s.member.roster[p]
        if p != s.me && e.present && !e.departQueued then { e with presence := some (s.now + s.presenceSpan) } else e) } }

/-- Asks for the withdrawal of this station's DEPART for a station; unless it is on the line, the departure state becomes NONE (R89, R91). NOT_FOUND is
taken as REMOVED is (R135, log 18). -/
def State.askDepart (s : State) (d : Station) : State :=
  let a := s.withdrawFrame (.depart d)
  match a.1 with
  | .onLine => a.2
  | .removed | .notFound => a.2.setPeer d { a.2.peer d with departQueued := false }

/-- The withdrawal is asked for where the departure state is QUEUED (R89, R90). A DEPART that is still queued while the state is NONE, as after an APPLY has
set it to NONE (R80), is left alone here, although R86 speaks of a DEPART that is queued (DEDUCED, log 50). -/
def State.withdrawDepart (s : State) (d : Station) : State := if (s.peer d).departQueued then s.askDepart d else s

/-- Renews the presence of a peer (R86); a DEPART for it is withdrawn where the departure state is QUEUED (R89, log 50). -/
def State.renewPresence (s : State) (p : Station) (stamp : Tick) : State :=
  let e := s.peer p
  if p = s.me || !e.present then s
  else
    let heard := s.setPeer p
      { e with lastHeard := some stamp, presence := if s.member.state = .online then some (stamp + s.presenceSpan) else e.presence }
    heard.withdrawDepart p

/-- A withdrawn DEPART has been discarded (R89, R91): queued again where the deadline was reached meanwhile and the station is still
ONLINE, otherwise the departure state becomes NONE. That it was reached is read from its absence now: after a further renewal, which has set a
new deadline, the DEPART is not queued again (DEDUCED, log 54). -/
def State.departDiscarded (s : State) (d : Station) : State :=
  let e := s.peer d
  if !e.departQueued then s
  else if s.member.state = .online && e.present && e.presence.isNone then s.queueFrame (.depart d)
  else s.setPeer d { e with departQueued := false }

/-! ## Discarding a loaded roster (R80, R121, R125, R127) -/

/-- Empties the roster and admission record; the roster stops being live. -/
def Membership.discardRoster (m : Membership) : Membership :=
  { m with roster := m.roster.map RosterEntry.discard, rosterLive := false, admission := none }

/-! ## Station clear (R128) -/

/-- The Membership Unit after a station clear; `note` is the own membership frame that stays in flight as an orphan. -/
def Membership.cleared (m : Membership) (note : Option OwnKind) : Membership :=
  { m.discardRoster with
    state := .offline, joinTag := none, leaveTag := none, failures := 0, own := none, orphanNote := note, attempt := none,
    abandoning := false, listenWindow := none, foundingPeriod := none, joinTimer := none, backoff := none, departEvicts := false,
    beaconDeadline := none, beaconPending := false, snapshot := .empty }

/-- The note of an orphan that a station clear leaves: the own membership frame in flight, else the note already kept (R128, R143). -/
def State.orphanKind (s : State) : Option OwnKind :=
  match s.tx.flying? with
  | some e => (OwnKind.ofId e.frame.id).orElse (fun _ => s.member.orphanNote)
  | none => s.member.orphanNote

/-- A station clear with the event that accompanies it, placed first; then TIMEBASE if LOCKED (R128, R78). -/
def State.stationClear (s : State) (ev : EventRecord) : State :=
  let t := (s.place ev).clearTimebase
  { t with
    replica := Replica.clear
    claims := Vector.replicate 8 Slot.clear
    tx := t.tx.cleared
    line := { t.line with ownVetoes := 0, issuedVetoes := 0 }
    member := t.member.cleared t.orphanKind }

/-- The end of a leave: station clear with LEFT (R124, R125, R126). -/
def State.leaveEnds (s : State) (tag : Byte) : State := s.stationClear (s.stationEvent .left tag 0 0 s.busyCount)

/-- LEFT for the LEAVE tag outstanding. -/
def State.leavingEnds (s : State) : State := s.leaveEnds (s.member.leaveTag.getD 0)

/-- Eviction (R93). -/
def State.evict (s : State) : State := s.stationClear (s.stationEvent .evicted (s.member.leaveTag.getD 0) 0 0 s.busyCount)

/-- A join given up (R115, R122). -/
def State.joinFails (s : State) (detail : Byte) : State :=
  s.stationClear (s.stationEvent .joinFailed (s.member.joinTag.getD 0) 0 detail (BitVec.ofNat 8 s.member.failures))

/-- The JOIN_RETRY event: tag 0, the reason, the counted failures (R115, R121). -/
def State.joinRetry (s : State) (detail : Byte) : EventRecord := s.stationEvent .joinRetry 0 0 detail (BitVec.ofNat 8 s.member.failures)

/-- The end of a founding abandonment: station clear with JOIN_RETRY, then JOINING with the same incarnation and the JOIN still
outstanding, and APPLY queued (R106, R128). -/
def State.abandonEnds (s : State) : State :=
  let t := (s.stationClear (s.joinRetry detailAbandoned)).enterBeaconing .joining
  { t with member := { t.member with joinTag := s.member.joinTag } }.queueOwn .apply

/-- Whether a DEPART naming this station evicts it (R93). In JOINING it does once the own APPLY has been applied, which makes it the current one (R113);
a station that mutes while its accepted APPLY is still to be handed inward is read as not having had one (DEDUCED, log 49). -/
def State.evictable (s : State) : Bool :=
  match s.member.state with
  | .founding | .catchup | .online => true
  | .joining => s.member.attempt.isSome
  | .mute | .leaving => s.member.departEvicts
  | .unconfigured | .offline | .listen => false

/-! ## Entering LEAVING, MUTE and ONLINE (R125, R126, R127, R162, R105, R119) -/

/-- Entry to LEAVING (R125). -/
def State.enterLeaving (s : State) (tag : Byte) : State :=
  let t := s.stopBeacons.clearPresence
  let joiner := s.member.state == .joining || s.member.state == .catchup
  let m := if joiner then { t.member.discardRoster with snapshot := .empty } else t.member
  { t with member := { m with
      state := .leaving, leaveTag := some tag, departEvicts := s.evictable, attempt := none, listenWindow := none, foundingPeriod := none,
      joinTimer := none, backoff := none } }

/-- Entry to MUTE (R127, R162): MUTED first, then what the state left behind asks for. -/
def State.enterMute (s : State) (detail : Byte) (threshold : Nat) : State :=
  let told := s.place (s.stationEvent .muted 0 (if s.replica.live then s.replica.seq else 0) detail (BitVec.ofNat 8 threshold))
  match s.member.state with
  | .leaving => told.leavingEnds
  | .unconfigured | .offline | .mute => s
  | .online | .founding | .listen | .joining | .catchup =>
    let t := told.stopBeacons.clearPresence
    let keeps := s.member.state == .online || s.member.state == .founding
    let m := if keeps then t.member else { t.member.discardRoster with snapshot := .empty }
    { t with member := { m with
        state := .mute, departEvicts := s.evictable, attempt := none, abandoning := false, listenWindow := none, foundingPeriod := none,
        joinTimer := none, backoff := none } }

/-- Entry to ONLINE: presence deadlines start, MARKED entries are queued for revocation, JOINED is placed and the JOIN answered (R87, R24,
R105, R119). -/
def State.enterOnline (s : State) : State :=
  let t := { s with member := { s.member with state := .online, foundingPeriod := none } }.startPresence.serviceRevocations
  let u := t.place (t.stationEvent .joined (t.member.joinTag.getD 0) (t.member.incarnation.getD 0) 0 (BitVec.ofNat 8 t.onlinePeers))
  { u with member := { u.member with joinTag := none, failures := 0 } }

/-! ## Joining a group that was heard, failed attempts (R101, R103, R121, R122) -/

/-- A listener that hears a group: the listen window is removed, JOINING is entered and APPLY is queued, after the withdrawal of an own FOUND
(R101, R103). -/
def State.joinGroup (s : State) : State :=
  let t := s.enterBeaconing .joining
  ({ t with member := { t.member with listenWindow := none } }.withdrawOwn.2).queueOwn .apply

/-- An attempt fails: everything loaded is discarded, a CLOSING record is kept and QUIT is queued (R121). -/
def State.failAttempt (s : State) (reason : FailReason) : State :=
  let m := s.member.discardRoster
  let counted := if reason = .admitterLeft then m.failures else min (m.failures + 1) Config.joinAttempts
  { s with member := { m with
      state := .joining, failures := counted, joinTimer := none, snapshot := .empty
      attempt := some { stamp := 0, accepted := 0, catchup := [], admission := none, phase := .closing reason } } }.queueOwn .quit

/-- The own QUIT of a CLOSING attempt is applied: the join is given up at 8 counted failures, else JOIN_RETRY and the backoff (R121, R122). -/
def State.closeAttempt (s : State) (reason : FailReason) : State :=
  if Config.joinAttempts ≤ s.member.failures then s.joinFails detailAttempts
  else
    let t := s.place (s.joinRetry reason.code)
    { t with member := { t.member with attempt := none, backoff := some (s.now + s.backoffSpan) } }

/-! ## Admissions: closing one, capture, stream (R109, R110, R112, R141) -/

/-- This station's stream frame, if queued, is withdrawn and the Snapshot Buffer emptied (R106, R112). -/
def State.dropStream (s : State) : State :=
  ({ s with member := { s.member with snapshot := .empty } }.withdrawFrame .stream).2

/-- An applied QUIT or DEPART that removes the joiner or the admitter closes an open admission (R112). -/
def State.closeAdmission (s : State) (gone : Station) : State :=
  match s.member.admission with
  | none => s
  | some a =>
    let closed := { s with member := { s.member with admission := none } }
    if gone = a.admitter then
      if (closed.peer a.joiner).state = .joining then closed.setPeer a.joiner (closed.peer a.joiner).depart else closed
    else if gone = a.joiner then (if a.admitter = s.me then closed.dropStream else closed)
    else s

/-- A remaining term: the deadline, less the guard, less the APPLY's application time, in whole LTU rounded down, at least 1 (R109). -/
def remainingTerm (c : ConfigRecord) (time deadline : Tick) : Word16 :=
  let ltus := (deadline - ltu c.guardLtu - time).toInt / 64
  if ltus < 1 then 1 else BitVec.ofInt 16 ltus

/-- The members of a resource entry in list order, holders first (R109, R194). -/
def ResourceEntry.members (e : ResourceEntry) (c : ConfigRecord) (time : Tick) : List Member :=
  e.holders.map (fun h => { holder := true, mode := 0, station := h.station, grant := h.grant, term := remainingTerm c time h.deadline })
    ++ e.waiters.map (fun w => { holder := false, mode := w.mode.code, station := w.station, grant := 0, term := w.term })

/-- Members divided into parts of at most four (R109). -/
def partsOfFour : List Member → List (List Member)
  | [] => []
  | a :: b :: c :: d :: rest => [a, b, c, d] :: partsOfFour rest
  | ms => [ms]

/-- The member lists of a resource's parts: at least one (R109). -/
def memberParts (ms : List Member) : List (List Member) := if ms.isEmpty then [[]] else partsOfFour ms

/-- The parts of one captured resource, not yet numbered. -/
def ResourceEntry.parts (e : ResourceEntry) (r : Nat) (c : ConfigRecord) (time : Tick) : List SnapshotPart :=
  (memberParts (e.members c time)).map (fun ms =>
    { index := 0, resource := BitVec.ofNat 8 r, state := BitVec.ofNat 2 e.state.code, counter := e.counter, members := ms })

/-- The parts of a capture in ascending resource number, numbered from 0; entries as after a station clear are left out (R109). -/
def Replica.captureParts (rep : Replica) (c : ConfigRecord) (time : Tick) : List SnapshotPart :=
  let ps := (List.range c.resourceCount).flatMap (fun r =>
    let e := rep.entry r
    if e.state = .free && e.counter = 0 && e.holders.isEmpty && e.waiters.isEmpty then [] else e.parts r c time)
  ps.zipIdx.map (fun p => { p.1 with index := BitVec.ofNat 8 p.2 })

/-- The roster states as an ADMIT carries them (R194). -/
def State.rosterStates (s : State) : BitVec 32 :=
  (List.finRange 16).foldl (fun acc p => (acc <<< 2) ||| BitVec.ofNat 32 (s.peer p).state.code) 0

/-- This station is the admitter of an admission that opens: DECLINEs that it still holds for the joiner are removed (R141). -/
def State.removeDeclines (s : State) (joiner : Station) : State :=
  ({ s with tx := { s.tx with pendingDeclines := s.tx.pendingDeclines.filter (fun d => d.joiner != joiner) } }.withdrawFrame (.decline joiner)).2

/-- The capture of the replica for an admission, the APPLY's application time being `time` (R109). -/
def State.captureFor (s : State) (joiner : Station) (time : Tick) : Capture :=
  { joiner := joiner, parts := s.replica.captureParts s.cfg time, digest := s.digest, states := s.rosterStates, sent := 0 }

/-- The ADMIT that a capture starts its stream with (R109, R110). -/
def Capture.opening (c : Capture) (a : Admission) : Frame :=
  .admitJoiner a.joiner a.incarnation a.capture (BitVec.ofNat 8 c.parts.length) c.states

/-- The admitter captures the replica and queues ADMIT (R109). -/
def State.captureAndAdmit (s : State) (a : Admission) (time : Tick) : State :=
  let c := s.captureFor a.joiner time
  { s with member := { s.member with snapshot := .capture c } }.queueFrame (c.opening a)

/-- The admission opens with this station as admitter (R109, R141); an abandoning one removes its DECLINEs and captures nothing (R106). -/
def State.openAsAdmitter (s : State) (a : Admission) (time : Tick) : State :=
  let t := s.removeDeclines a.joiner
  if t.member.abandoning then t else t.captureAndAdmit a time

/-- The admitter has applied its stream frame: the next part, or SNAP_END after the last, is queued (R110, R139). -/
def State.nextStreamFrame (s : State) : State :=
  match s.member.snapshot with
  | .capture c =>
    let t := { s with member := { s.member with snapshot := .capture { c with sent := c.sent + 1 } } }
    match c.parts[c.sent]? with
    | some p => t.queueFrame (.snapshot c.joiner p)
    | none => t.queueFrame (.snapEnd c.joiner c.digest)
  | .empty | .rebuild _ => s

end Sys2Proof.Machine
end

