-- ==== Sys2Proof/Machine/Receive.lean ====
section
/-! DEFINITION. What an accepted frame does where it is handed inward (R159): in LISTEN, in a joiner, and at a live replica and roster
(R7), where each kind has its own definition; and the replay of a joiner's Catch-up Queue (R119). -/

namespace Sys2Proof.Machine

/-! ## Shared parts of an application -/

/-- The membership part of a frame ignored and counted (R31). -/
def State.countStale (s : State) : State := { s with replica := s.replica.countStale }

/-- Whether the roster entry of a station is ONLINE (R8). -/
def State.isOnline (s : State) (p : Station) : Bool := (s.peer p).state == .online

/-- A lease result takes effect: the replica, the reports to the Claim Manager, the withdrawals of REVOKE frames (R7, R9, R25). -/
def State.takeLease (s : State) (out : LeaseResult) : State :=
  ({ s with replica := out.replica }.claimReports out.reports).withdrawAll out.withdrawals

/-- The end of an application: the revocation bookkeeping (R24), then the line sequence number advances while the replica is live (R7, R28,
log 24). A replayed frame does not advance it (R119). -/
def State.finishApplication (s : State) (replay : Bool) : State :=
  let t := s.serviceRevocations
  if replay || !t.replica.live then t else { t with replica := { t.replica with seq := t.replica.seq + 1 } }

/-! ## Lease frames at a live replica (R12 to R20) -/

/-- CLAIM (R12, R13, R14). -/
def State.liveClaim (s : State) (d : Delivered) (r : ResNo) (noWait : Bool) (mode : BitVec 2) (term : Word16) : State :=
  s.takeLease ((s.leaseContext d.stamp).applyClaim d.sender (s.isOnline d.sender) r noWait mode term s.replica)

/-- DROP (R15). -/
def State.liveDrop (s : State) (d : Delivered) (r : ResNo) (grant : Word16) : State :=
  s.takeLease ((s.leaseContext d.stamp).applyDrop d.sender (s.isOnline d.sender) r grant s.replica)

/-- EXTEND (R16, R17). -/
def State.liveExtend (s : State) (d : Delivered) (r : ResNo) (grant term : Word16) : State :=
  s.takeLease ((s.leaseContext d.stamp).applyExtend d.sender (s.isOnline d.sender) r grant term s.replica)

/-- WITHDRAW (R18, R19). -/
def State.liveWithdraw (s : State) (d : Delivered) (r : ResNo) : State :=
  s.takeLease ((s.leaseContext d.stamp).applyWithdraw d.sender (s.isOnline d.sender) r s.replica)

/-- REVOKE (R20, R27). -/
def State.liveRevoke (s : State) (d : Delivered) (r : ResNo) (holder : Station) (grant : Word16) : State :=
  s.takeLease ((s.leaseContext d.stamp).applyRevoke d.sender (s.isOnline d.sender) d.own r holder grant s.replica)

/-! ## QUIT and DEPART at a live roster (R90, R91, R112, R21) -/

/-- PEER_LEFT (R92). -/
def State.peerLeft (s : State) (p : Station) (detail : Byte) : EventRecord :=
  { kind := .peerLeft, tag := 0, subject := stationByte p, grant := 0, detail := detail, count := BitVec.ofNat 8 s.onlinePeers }

/-- PEER_JOINED (R92). -/
def State.peerJoined (s : State) (p : Station) : EventRecord :=
  { kind := .peerJoined, tag := 0, subject := stationByte p, grant := 0, detail := 0, count := BitVec.ofNat 8 s.onlinePeers }

/-- A peer that is JOINING or ONLINE leaves: its entry becomes ABSENT, an admission of its closes, PEER_LEFT is raised where it was ONLINE, and
the lease part follows (R90, R91, R112, R92, R21). The replay places no PEER_LEFT (R81). -/
def State.peerGone (s : State) (d : Delivered) (p : Station) (detail : Byte) (replay : Bool) : State :=
  let e := s.peer p
  let gone := (s.setPeer p e.depart).closeAdmission p
  let told := if e.state = .online && !replay then gone.placeAtOnce (gone.peerLeft p detail) else gone
  told.takeLease ((told.leaseContext d.stamp).applyDeparture p told.replica)

/-- QUIT from a peer (R90); stale where its entry is ABSENT. -/
def State.peerQuit (s : State) (d : Delivered) (replay : Bool) : State :=
  if (s.peer d.sender).present then (s.peerGone d d.sender detailQuit replay).withdrawDepart d.sender else s.countStale

/-- QUIT under this station's number (R106, R125). One that this station did not send has no effect (log 12), and neither has one accepted before its
founder muted and handed inward in MUTE (DESIGN CHOICE, log 41). -/
def State.ownQuit (s : State) (d : Delivered) : State :=
  if !d.own then s
  else if s.member.state = .leaving then s.leavingEnds
  else if s.member.state = .founding && s.member.abandoning then s.abandonEnds
  else s

/-- QUIT at a live roster. -/
def State.liveQuit (s : State) (d : Delivered) (replay : Bool) : State :=
  if d.sender = s.me then s.ownQuit d else s.peerQuit d replay

/-- A DEPART naming a station has been applied: a DEPART of this station for it that is still in the Transmit Queue is withdrawn, whatever the
departure state says, and the applied one, if it is this station's, leaves the departure state NONE (R91). -/
def State.settleDepart (s : State) (d : Delivered) (p : Station) : State :=
  let asked := s.askDepart p
  if d.own then asked.setPeer p { asked.peer p with departQueued := false } else asked

/-- DEPART naming a station other than this one (R91). -/
def State.liveDepart (s : State) (d : Delivered) (p : Station) (replay : Bool) : State :=
  if !s.isOnline d.sender then s.countStale
  else if (s.peer p).present then (s.peerGone d p detailDepart replay).settleDepart d p
  else (s.countStale).settleDepart d p

/-! ## APPLY (R108) -/

/-- The reason for which an APPLY is declined, if it is: the first row of R108's table that applies. -/
def State.declineReason (s : State) (applicant : Station) (profile : Word16) : Option Byte :=
  if profile ≠ s.cfg.profile then some declineMismatch
  else if (s.peer applicant).present then some declineDuplicate
  else if s.member.admission.isSome then some declineBusy
  else none

/-- Whether this station hands over a DECLINE as the admitter it is: not while abandoning (R106). -/
def State.handsDecline (s : State) (admitter : Station) : Bool := admitter == s.me && !s.member.abandoning

/-- An APPLY of another station at a live roster (R108, R109, R141). -/
def State.liveApply (s : State) (d : Delivered) (incarnation profile : Word16) : State :=
  match s.lowestOnline with
  | none => s
  | some admitter =>
    match s.declineReason d.sender profile with
    | some reason =>
      if s.handsDecline admitter then
        { s with tx := s.tx.handDecline { joiner := d.sender, incarnation := incarnation, reason := reason } }
      else s
    | none =>
      let a : Admission := { joiner := d.sender, incarnation := incarnation, admitter := admitter, capture := s.replica.seq + 1 }
      let entered := s.setPeer d.sender ((s.peer d.sender).enter .joining (some incarnation))
      let opened := { entered with member := { entered.member with admission := some a } }.renewPresence d.sender d.stamp
      if admitter = s.me then opened.openAsAdmitter a d.stamp else opened

/-! ## Stream frames, DECLINE and FOUND at a live roster (R111, R110, R103) -/

/-- Whether a stream frame matches the admission record (R111); an ADMIT also by its incarnation. -/
def State.matchesAdmission (s : State) (d : Delivered) (joiner : Station) (incarnation : Option Word16) : Bool :=
  match s.member.admission with
  | none => false
  | some a => a.admitter == d.sender && a.joiner == joiner && (match incarnation with | none => true | some i => a.incarnation == i)

/-- A matching ADMIT or SNAPSHOT renews the admitter's presence; the admitter queues its next stream frame (R110, R111). -/
def State.streamed (s : State) (d : Delivered) : State :=
  let t := s.renewPresence d.sender d.stamp
  if d.own then t.nextStreamFrame else t

/-- ADMIT at a live roster (R111). -/
def State.liveAdmit (s : State) (d : Delivered) (joiner : Station) (incarnation : Word16) : State :=
  if s.matchesAdmission d joiner (some incarnation) then s.streamed d else s.countStale

/-- SNAPSHOT at a live roster (R111). -/
def State.liveSnapshot (s : State) (d : Delivered) (joiner : Station) : State :=
  if s.matchesAdmission d joiner none then s.streamed d else s.countStale

/-- SNAP_END at a live roster completes the admission (R111, R92, R110). -/
def State.liveSnapEnd (s : State) (d : Delivered) (joiner : Station) : State :=
  if s.matchesAdmission d joiner none then
    let t := s.renewPresence d.sender d.stamp
    let closed := { t with member := { t.member with admission := none, snapshot := if d.own then .empty else t.member.snapshot } }
    if (closed.peer joiner).state = .joining then
      let joined := closed.setPeer joiner { closed.peer joiner with state := .online }
      joined.placeAtOnce (joined.peerJoined joiner)
    else closed
  else s.countStale

/-- DECLINE at a live roster renews its sender's presence (R111). -/
def State.liveDecline (s : State) (d : Delivered) : State := s.renewPresence d.sender d.stamp

/-- FOUND at a live roster is ignored and counted (R103). -/
def State.liveFound (s : State) : State := s.countStale

/-! ## BEACON at a live roster (R85, R66 to R68, R94, R95, R106) -/

/-- A sample is formed from the beacon record and a BEACON, if its number follows the recorded one (R67). -/
def sampleOf (rec : Option BeaconRecord) (b : BeaconBody) (stamp : Tick) : Option (Tick × Tick) :=
  match rec with
  | none => none
  | some r => if r.number + 1 = b.number then some (stamp - r.received, b.stamp - r.carried) else none

/-- The sample goes to the Timebase, or counts as an outlier of the peer (R68, R69). Samples are formed while this station and the peer are
ONLINE (R67). -/
def State.sampleBeacon (s : State) (d : Delivered) (b : BeaconBody) : State :=
  let e := s.peer d.sender
  if s.member.state = .online && e.state = .online then
    match sampleOf e.beacon b d.stamp with
    | none => s
    | some (l, sd) =>
      if outlier l sd then s.setPeer d.sender { e with outliers := min (e.outliers + 1) Config.byteCountMax }
      else { s with timebase := s.timebase.sample (sampleError l sd) }
  else s

/-- The record and the reported states are replaced (R66, R85, R195). -/
def State.recordBeacon (s : State) (d : Delivered) (b : BeaconBody) : State :=
  s.setPeer d.sender { s.peer d.sender with
    beacon := some { number := b.number, carried := b.stamp, received := d.stamp }
    reportedState := StationState.ofBeacon b.stationState
    reportedTimebase := TimebaseState.ofCode b.timebaseState }

/-- The digests are compared (R94); a difference with the flag clear raises DIVERGENCE (R95). The replay places none (R81). -/
def State.compareDigest (s : State) (d : Delivered) (b : BeaconBody) (replay : Bool) : State :=
  let e := s.peer d.sender
  if s.replica.live && e.state == .online && (b.stationState == 3 || b.stationState == 6) then
    if b.digest = s.digest then s.setPeer d.sender { e with divergence := false }
    else
      let flagged := s.setPeer d.sender { e with divergence := true }
      if e.divergence || replay then flagged
      else flagged.placeAtOnce { kind := .divergence, tag := 0, subject := stationByte d.sender, grant := b.digest, detail := 0, count := b.number }
  else s

/-- A founder hears an existing group (R106): the group is abandoned. -/
def State.abandon (s : State) : State :=
  let t := { s with member := { s.member with foundingPeriod := none, abandoning := true } }
  let u := match t.member.admission with
    | some a => if a.admitter = t.me then t.dropStream else t
    | none => t
  u.queueOwn .quit

/-- A BEACON from an unknown station: read by a founder (R106), otherwise ignored (R85). -/
def State.unknownBeacon (s : State) (b : BeaconBody) : State :=
  if s.member.state = .founding && !s.member.abandoning && b.stationState == 6 && b.profile == s.cfg.profile then s.abandon else s

/-- BEACON at a live roster (R84, R85). -/
def State.liveBeacon (s : State) (d : Delivered) (b : BeaconBody) (replay : Bool) : State :=
  if d.sender = s.me then s
  else if (s.peer d.sender).present then
    (((s.sampleBeacon d b).recordBeacon d b).renewPresence d.sender d.stamp).compareDigest d b replay
  else s.unknownBeacon b

/-! ## One frame at a live replica and roster (R7) -/

/-- The effects of one accepted frame, before the bookkeeping and the sequence number (R7 steps 1 and 2). -/
def State.liveEffects (s : State) (d : Delivered) (replay : Bool) : State :=
  match d.frame with
  | .claim r nw m t => s.liveClaim d r nw m t
  | .drop r g => s.liveDrop d r g
  | .extend r g t => s.liveExtend d r g t
  | .withdraw r => s.liveWithdraw d r
  | .revoke r h g => s.liveRevoke d r h g
  | .quit => s.liveQuit d replay
  | .depart p => s.liveDepart d p replay
  | .found _ _ => s.liveFound
  | .apply i p => s.liveApply d i p
  | .admitJoiner j i _ _ _ => s.liveAdmit d j i
  | .decline _ => s.liveDecline d
  | .snapshot j _ => s.liveSnapshot d j
  | .snapEnd j _ => s.liveSnapEnd d j
  | .beacon b => s.liveBeacon d b replay

/-- One application (R7). -/
def State.applyLive (s : State) (d : Delivered) (replay : Bool) : State := (s.liveEffects d replay).finishApplication replay

/-! ## LISTEN (R101, R103, R104) -/

/-- A listener applies its own FOUND and becomes founder (R104, R28, R1). -/
def State.becomeFounder (s : State) (stamp : Tick) : State :=
  let t := s.enterBeaconing .founding
  let own := (t.peer t.me).enter .online t.member.incarnation
  { t with
    replica := { Replica.clear with live := true }
    member := { t.member with
      roster := (t.member.roster.map RosterEntry.discard).set t.me own
      rosterLive := true
      admission := none
      listenWindow := none
      foundingPeriod := some (stamp + t.presenceSpan) } }

/-- FOUND in LISTEN (R103). -/
def State.listenFound (s : State) (d : Delivered) (profile : Word16) : State :=
  if d.own then s.becomeFounder d.stamp else if profile = s.cfg.profile then s.joinGroup else s

/-- BEACON in LISTEN (R101). -/
def State.listenBeacon (s : State) (b : BeaconBody) : State :=
  if (b.stationState == 3 || b.stationState == 6) && b.profile == s.cfg.profile then s.joinGroup else s

/-- A frame in LISTEN: only BEACON and FOUND are read (R101). -/
def State.listenFrame (s : State) (d : Delivered) : State :=
  match d.frame with
  | .beacon b => s.listenBeacon b
  | .found _ p => s.listenFound d p
  | .apply _ _ | .quit | .depart _ | .admitJoiner _ _ _ _ _ | .decline _ | .snapshot _ _ | .snapEnd _ _ | .revoke _ _ _ | .claim _ _ _ _
  | .drop _ _ | .extend _ _ _ | .withdraw _ => s

/-! ## The joiner (R113 to R119) -/

/-- This station's incarnation as frames name it. -/
def State.incarnation (s : State) : Word16 := s.member.incarnation.getD 0

/-- Updates the join attempt record. -/
def State.setAttempt (s : State) (a : Attempt) : State := { s with member := { s.member with attempt := some a } }

/-- A joiner applies its own APPLY: the attempt begins (R113). -/
def State.beginAttempt (s : State) (stamp : Tick) : State :=
  { s with member := { s.member with
      attempt := some { stamp := stamp, accepted := 0, catchup := [], admission := none, phase := .awaiting }
      joinTimer := some (stamp + s.beaconPeriods 8) } }

/-- DECLINE for this station in phase AWAITING (R115, R195). -/
def State.joinerDeclined (s : State) (reason : Byte) : State :=
  if reason = declineBusy then
    let t := s.place (s.joinRetry detailBusy)
    { t with member := { t.member with attempt := none, joinTimer := none, backoff := some (s.now + s.backoffSpan) } }
  else if reason = declineMismatch then s.joinFails detailMismatch
  else if reason = declineDuplicate then s.joinFails detailDuplicate
  else s

/-- Whether the Catch-up Queue shows that a station has left since the capture (R116). -/
def Attempt.hasLeft (a : Attempt) (p : Station) : Bool :=
  a.catchup.any (fun d => match d.frame with
    | .quit => d.sender == p
    | .depart q => q == p
    | _ => false)

/-- The roster states of an ADMIT are unusable: code 3, or this station's own entry other than JOINING (R116, R195). -/
def State.badRosterStates (s : State) (states : BitVec 32) : Bool :=
  (List.finRange 16).any (fun p => (RosterState.ofCode (rosterCodeAt states p)).isNone) || rosterCodeAt states s.me != 1

/-- The roster loaded from an ADMIT: the other entries carry no incarnation, ABSENT ones included (R116 against R80, DEDUCED, log 42). -/
def State.loadRoster (s : State) (states : BitVec 32) : Vector RosterEntry 16 :=
  Vector.ofFn (fun p =>
    { RosterEntry.clear with
      state := (RosterState.ofCode (rosterCodeAt states p)).getD .absent
      incarnation := if p = s.me then s.member.incarnation else none })

/-- ADMIT for this station in phase AWAITING (R116): the departure of its sender is looked for before its roster states are judged (DEDUCED, log 43);
its sender is present in the roster it brings (R86, log 32). -/
def State.joinerAdmitted (s : State) (a : Attempt) (d : Delivered) (capture : Word16) (parts : Byte) (states : BitVec 32) : State :=
  if a.hasLeft d.sender then s.failAttempt .admitterLeft
  else if s.badRosterStates states then s.failAttempt .check
  else
    ({ s with member := { s.member with
        state := .catchup
        attempt := some { a with phase := .collecting, admission := some { admitter := d.sender, capture := capture, parts := parts.toNat, next := 0 } }
        roster := s.loadRoster states
        rosterLive := true
        admission := some { joiner := s.me, incarnation := s.incarnation, admitter := d.sender, capture := capture }
        snapshot := .rebuild { table := Vector.replicate 64 SnapEntry.clear, last := none } } } : State).renewPresence d.sender d.stamp

/-- A resource's entry being rebuilt agrees with its state once its last part is in: EXCLUSIVE and SHARED have a holder (R117). -/
def SnapEntry.complete (e : SnapEntry) : Bool := e.state == .free || !e.holders.isEmpty

/-- The last resource loaded is complete, if there is one. -/
def Rebuild.lastComplete (b : Rebuild) : Bool :=
  match b.last with
  | none => true
  | some r => b.table[r].complete

/-- Whether a member entry's codes have a meaning (R195). -/
def Member.meaningful (m : Member) : Bool := (if m.holder then m.mode == 0 else (Mode.ofCode m.mode).isSome) && m.term != 0

/-- Appends a member to an entry being rebuilt; none where a check of R117 fails: a station twice, a holder after a waiter, a holder on FREE
or a second one on EXCLUSIVE. The grant-number bytes of a waiter are ignored, also where they are not the 0 of R194 (DESIGN CHOICE, log 51);
waiters on FREE are taken (DEDUCED, log 33), and stations that R5 or R6 would keep out of a replica (DEDUCED, log 53). -/
def SnapEntry.add (e : SnapEntry) (m : Member) : Option SnapEntry :=
  if e.holders.any (fun h => h.station == m.station) || e.waiters.any (fun w => w.station == m.station) then none
  else if m.holder then
    if !e.waiters.isEmpty || e.state == .free || (e.state == .exclusive && !e.holders.isEmpty) then none
    else some { e with holders := e.holders ++ [{ station := m.station, grant := m.grant, remaining := m.term }] }
  else
    match Mode.ofCode m.mode with
    | none => none
    | some mode => some { e with waiters := e.waiters ++ [{ station := m.station, mode := mode, term := m.term }] }

/-- Appends members in the order carried. -/
def SnapEntry.addAll (e : SnapEntry) : List Member → Option SnapEntry
  | [] => some e
  | m :: ms => match e.add m with
    | none => none
    | some e' => e'.addAll ms

/-- The entry a part starts from: the resource's own, if it continues the resource of the previous part with the same state and counter; a new
one, if its resource lies above and the previous resource is complete; none otherwise (R117). -/
def Rebuild.base (b : Rebuild) (r : Fin 64) (st : ResourceState) (counter : Word16) : Option SnapEntry :=
  let fresh : SnapEntry := { state := st, counter := counter, holders := [], waiters := [] }
  match b.last with
  | none => some fresh
  | some q =>
    if r = q then (if b.table[q].state = st && b.table[q].counter = counter then some b.table[q] else none)
    else if q < r && b.lastComplete then some fresh
    else none

/-- The part ends its resource and the entry lacks the holder that its state needs: known here of the stream's final part (R117); of an earlier one
when a part of a later resource follows. -/
def SnapEntry.endsShort (e : SnapEntry) (ap : AdmissionPart) (p : SnapshotPart) : Bool := p.index.toNat + 1 == ap.parts && !e.complete

/-- A SNAPSHOT part loaded into the Snapshot Buffer; none where a check fails (R117, R195). No check asks that a member be ONLINE in the loaded
roster or be named at most 8 times over the table, as R6 and R5 have it of a replica (DEDUCED, log 53). -/
def Rebuild.load (b : Rebuild) (c : ConfigRecord) (ap : AdmissionPart) (p : SnapshotPart) : Option Rebuild :=
  if p.index.toNat ≠ ap.next || ap.parts ≤ p.index.toNat then none
  else if h : p.resource.toNat < 64 then
    if c.resourceCount ≤ p.resource.toNat || !p.members.all Member.meaningful then none
    else
      match ResourceState.ofCode p.state with
      | none => none
      | some st =>
        match b.base ⟨p.resource.toNat, h⟩ st p.counter with
        | none => none
        | some e =>
          match e.addAll p.members with
          | none => none
          | some e' => if e'.endsShort ap p then none else some { table := b.table.set p.resource.toNat e', last := some ⟨p.resource.toNat, h⟩ }
  else none

/-- SNAPSHOT for this station in CATCHUP (R117). -/
def State.joinerSnapshot (s : State) (a : Attempt) (ap : AdmissionPart) (p : SnapshotPart) : State :=
  match s.member.snapshot with
  | .rebuild b =>
    match b.load s.cfg ap p with
    | none => s.failAttempt .check
    | some b' =>
      { s with member := { s.member with
          snapshot := .rebuild b'
          attempt := some { a with admission := some { ap with next := ap.next + 1 } } } }
  | .empty | .capture _ => s.failAttempt .check

/-- The replay of the Catch-up Queue, in order, each frame with its stored stamp (R119 step 2). -/
def State.replay (s : State) (ds : List Delivered) : State := ds.foldl (fun s d => s.applyLive d true) s

/-- The checks of SNAP_END (R118): every part received, the digest of the rebuilt table equal. That the last resource is complete is R117's check of the
final part once more, so that it holds of every table that is loaded. -/
def Rebuild.passes (b : Rebuild) (c : ConfigRecord) (ap : AdmissionPart) (digest : Word16) : Bool :=
  ap.next == ap.parts && b.lastComplete && digestOf c.resourceCount (b.table.toList.map SnapEntry.toEntry) == digest

/-- The join completes (R119); `stamp` is the SNAP_END's, which renews the admitter's presence (R86, log 32). -/
def State.completeJoin (s : State) (a : Attempt) (ap : AdmissionPart) (b : Rebuild) (stamp : Tick) : State :=
  let loaded := { s with replica := (s.leaseContext a.stamp).loadReplica b (ap.capture + a.accepted + 1) s.replica }
  let replayed := loaded.replay a.catchup
  let heard := replayed.renewPresence ap.admitter stamp
  let own := heard.setPeer heard.me { heard.peer heard.me with state := .online }
  { own with member := { own.member with
      admission := none, joinTimer := none, attempt := none, snapshot := .empty } }.enterOnline

/-- SNAP_END for this station in CATCHUP (R118, R119). -/
def State.joinerSnapEnd (s : State) (a : Attempt) (ap : AdmissionPart) (digest : Word16) (stamp : Tick) : State :=
  match s.member.snapshot with
  | .rebuild b => if b.passes s.cfg ap digest then s.completeJoin a ap b stamp else s.failAttempt .check
  | .empty | .capture _ => s.failAttempt .check

/-- A frame that is neither of the admission nor set aside is stored; the 49th fails the attempt (R114 step 6). -/
def State.storeFrame (s : State) (a : Attempt) (d : Delivered) : State :=
  if Config.catchupSize ≤ a.catchup.length then s.failAttempt .catchupFull else s.setAttempt { a with catchup := a.catchup ++ [d] }

/-- After an ADMIT, the departure of its admitter fails the attempt (R114 step 5). -/
def Attempt.admitterIs (a : Attempt) (p : Station) : Bool :=
  match a.admission with
  | some ap => ap.admitter == p
  | none => false

/-- The accepted count advances for every frame but the SNAP_END of this admission, taken in CATCHUP (R114 step 2). -/
def State.countsFrame (s : State) (a : Attempt) (d : Delivered) : Bool :=
  match d.frame with
  | .snapEnd j _ => !(j == s.me && a.admitterIs d.sender && s.member.state == .catchup)
  | _ => true

/-- A frame in phase AWAITING or COLLECTING, after the eviction test and the count (R114 steps 3 to 6). -/
def State.attemptFrame (s : State) (a : Attempt) (d : Delivered) : State :=
  match d.frame with
  | .beacon _ => s
  | .admitJoiner j i cap parts states =>
    if j = s.me && i = s.incarnation && a.phase = .awaiting then s.joinerAdmitted a d cap parts states else s
  | .decline b =>
    if b.joiner = s.me && b.incarnation = s.incarnation && a.phase = .awaiting then s.joinerDeclined b.reason else s
  | .snapshot j p =>
    match a.admission with
    | some ap => if j = s.me && ap.admitter = d.sender && s.member.state = .catchup then s.joinerSnapshot a ap p else s
    | none => s
  | .snapEnd j dg =>
    match a.admission with
    | some ap => if j = s.me && ap.admitter = d.sender && s.member.state = .catchup then s.joinerSnapEnd a ap dg d.stamp else s
    | none => s
  | .quit => if a.admitterIs d.sender then s.failAttempt .admitterLeft else s.storeFrame a d
  | .depart p => if a.admitterIs p then s.failAttempt .admitterLeft else s.storeFrame a d
  | .found _ _ | .apply _ _ | .revoke _ _ _ | .claim _ _ _ _ | .drop _ _ | .extend _ _ _ | .withdraw _ => s.storeFrame a d

/-- A frame in JOINING or CATCHUP (R113, R114, R121, R123). -/
def State.joinerFrame (s : State) (d : Delivered) : State :=
  match s.member.attempt with
  | none =>
    match d.frame with
    | .apply _ _ => if d.own && s.member.backoff.isNone then s.beginAttempt d.stamp else s
    | _ => s
  | some a =>
    match a.phase with
    | .closing reason => if d.own && d.frame = .quit then s.closeAttempt reason else s
    | .awaiting | .collecting =>
      let a' := if s.countsFrame a d then { a with accepted := a.accepted + 1 } else a
      (s.setAttempt a').attemptFrame a' d

/-! ## LEAVING and MUTE without a live replica (R125, R126, R127) -/

/-- A frame in LEAVING with no live replica: the own QUIT ends the leave; the own FOUND or APPLY whose fate was awaited is followed by a
QUIT (R125, R126). -/
def State.leavingFrame (s : State) (d : Delivered) : State :=
  if !d.own then s
  else match d.frame with
    | .quit => s.leavingEnds
    | .found _ _ => s.queueOwn .quit
    | .apply _ _ => { s with member := { s.member with departEvicts := true } }.queueOwn .quit
    | .depart _ | .beacon _ | .admitJoiner _ _ _ _ _ | .decline _ | .snapshot _ _ | .snapEnd _ _ | .revoke _ _ _ | .claim _ _ _ _
    | .drop _ _ | .extend _ _ _ | .withdraw _ => s

/-! ## Handing a frame inward (R158, R159) -/

/-- The Membership Unit learns that its own BEACON has been delivered: a pending firing queues a new one (R83). -/
def State.beaconDelivered (s : State) (d : Delivered) : State :=
  match d.frame with
  | .beacon _ =>
    if d.own && s.member.beaconPending then { s with member := { s.member with beaconPending := false } }.queueBeacon else s
  | _ => s

/-- An own FOUND, APPLY or QUIT that was an orphan ends its note (R143). -/
def State.endsNote (s : State) (d : Delivered) : Bool := d.own && (OwnKind.ofId d.frame.id).isSome && OwnKind.ofId d.frame.id == s.member.orphanNote

/-- An own FOUND, APPLY or QUIT has left the Transmit Queue by application: the frame to follow is queued (R97, R103). -/
def State.ownDelivered (s : State) (d : Delivered) : State :=
  match OwnKind.ofId d.frame.id with
  | some k => if d.own && (s.member.own.map (·.kind)) == some k then s.ownLeft else s
  | none => s

/-- A DEPART naming this station, where it evicts (R93). -/
def State.evictedBy (s : State) (d : Delivered) : Bool :=
  match d.frame with
  | .depart p => p == s.me && s.evictable
  | _ => false

/-- What the station's state does with the frame (R159). A DEPART naming this station that does not evict it has no effect (R93). -/
def State.routeFrame (s : State) (d : Delivered) : State :=
  match s.member.state with
  | .unconfigured | .offline => s
  | .listen => s.listenFrame d
  | .joining | .catchup => s.joinerFrame d
  | .founding | .online => s.applyLive d false
  | .mute => if s.replica.live then s.applyLive d false else s
  | .leaving => if s.replica.live then s.applyLive d false else s.leavingFrame d

/-- The oldest frame of the delivery order is handed inward: the frame stops awaiting delivery, then the part acts on it whole (R134, R158,
R159). -/
def State.receive (s : State) (d : Delivered) : State :=
  let taken := if d.own then { s with tx := s.tx.delivered d.frame.id } else s
  if taken.endsNote d then
    let cleared := { taken with member := { taken.member with orphanNote := none } }
    match d.frame with
    | .quit => cleared.routeFrame d
    | _ => cleared
  else
    let t := (taken.beaconDelivered d).ownDelivered d
    if t.evictedBy d then t.evict else t.routeFrame d

end Sys2Proof.Machine
end

