-- ==== Sys2Proof/Machine/Frames.lean ====
section
/-! DEFINITION. The meanings of the fourteen frame commands: the oldest frame of the delivery order, where it is of the command's kind, is handed
inward and handled whole by the state the station is in (R158, R159). -/

namespace Sys2Proof.Machine

/-- The oldest frame leaves the delivery order (R158). -/
def State.dropDelivery (s : State) : State := { s with line := { s.line with delivery := s.line.delivery.tail } }

/-- Hands the oldest accepted frame inward, where it is of this kind (R158; log 3). -/
def State.deliver (s : State) (k : FrameKind) : State :=
  match s.line.delivery with
  | [] => s
  | d :: _ => if d.frame.kind = k then s.dropDelivery.receive d else s

/-- The part once every frame of the delivery order has been handed inward, oldest first (R7, R158). -/
def State.allDelivered (s : State) : State := s.line.delivery.foldl (fun t d => t.deliver d.frame.kind) s

/-- CLAIM (R12 to R14). -/
def execClaimFrame (s : State) : Host.Outcome State Fault Refusal := .next (s.deliver .claim)

/-- DROP (R15). -/
def execDropFrame (s : State) : Host.Outcome State Fault Refusal := .next (s.deliver .drop)

/-- EXTEND (R16, R17). -/
def execExtendFrame (s : State) : Host.Outcome State Fault Refusal := .next (s.deliver .extend)

/-- WITHDRAW (R18, R19). -/
def execWithdrawFrame (s : State) : Host.Outcome State Fault Refusal := .next (s.deliver .withdraw)

/-- REVOKE (R20, R27). -/
def execRevokeFrame (s : State) : Host.Outcome State Fault Refusal := .next (s.deliver .revoke)

/-- QUIT (R90, R106, R121, R125). -/
def execQuitFrame (s : State) : Host.Outcome State Fault Refusal := .next (s.deliver .quit)

/-- DEPART (R91, R93). -/
def execDepartFrame (s : State) : Host.Outcome State Fault Refusal := .next (s.deliver .depart)

/-- FOUND (R103, R104). -/
def execFoundFrame (s : State) : Host.Outcome State Fault Refusal := .next (s.deliver .found)

/-- APPLY (R108, R113). -/
def execApplyFrame (s : State) : Host.Outcome State Fault Refusal := .next (s.deliver .apply)

/-- ADMIT (R110, R111, R116). -/
def execAdmitFrame (s : State) : Host.Outcome State Fault Refusal := .next (s.deliver .admitJoiner)

/-- DECLINE (R111, R115). -/
def execDeclineFrame (s : State) : Host.Outcome State Fault Refusal := .next (s.deliver .decline)

/-- SNAPSHOT (R110, R111, R117). -/
def execSnapshotFrame (s : State) : Host.Outcome State Fault Refusal := .next (s.deliver .snapshot)

/-- SNAP_END (R111, R118, R119). -/
def execSnapEndFrame (s : State) : Host.Outcome State Fault Refusal := .next (s.deliver .snapEnd)

/-- BEACON (R85, R101, R106). -/
def execBeaconFrame (s : State) : Host.Outcome State Fault Refusal := .next (s.deliver .beacon)

end Sys2Proof.Machine
end

