-- ==== Sys2Proof/Machine/Line.lean ====
section
/-! DEFINITION. The Line Controller's events (spec/07 7.2 to 7.6) and what they do at the Transmit Queue (R134, R136, R137, R143): the start of a
frame, a lost arbitration, the close of a check window, a missed frame, and the idle line. -/

namespace Sys2Proof.Machine

/-! ## The end of an attempt without acceptance (R134, R136, R137, R143) -/

/-- An own membership frame marked withdrawn has been discarded: in LEAVING a FOUND or APPLY ends the leave (R126), otherwise the frame to follow
is queued (R97, R101). -/
def State.ownDiscarded (s : State) (k : OwnKind) : State :=
  if s.member.state = .leaving && k != .quit then s.leavingEnds else s.ownLeft

/-- DISCARDED reaches the requester of a frame (R136): the slot (R36), the Replica Engine's ROOM (R138), the departure state (R89), the own
membership frame (R97). A discarded BEACON, stream frame or DECLINE leaves nothing to settle. -/
def State.frameDiscarded (s : State) : FrameId → State
  | .claim r => s.claimDiscarded .claim r
  | .drop r => s.claimDiscarded .drop r
  | .extend r => s.claimDiscarded .extend r
  | .withdraw r => s.claimDiscarded .withdraw r
  | .revoke _ _ _ => s.serviceRevocations
  | .depart d => s.departDiscarded d
  | .found => s.ownDiscarded .found
  | .apply => s.ownDiscarded .apply
  | .quit => s.ownDiscarded .quit
  | .beacon | .stream | .decline _ => s

/-- RETURNED: the BEACON is refreshed at once with the counter value now, and the pending firing is cleared (R83, R137). -/
def State.beaconReturned (s : State) : State :=
  { s with
    tx := (s.tx.refresh s.member.beaconCounter s.digest).2
    member := { s.member with beaconPending := false } }

/-- ORPHAN_ENDED on a discard: the note of an own membership frame is cleared (R143). -/
def State.orphanDiscarded (s : State) (id : FrameId) : State :=
  if (OwnKind.ofId id).isSome then { s with member := { s.member with orphanNote := none } } else s

/-- This station's attempt ends in a veto or a lost arbitration (R134). -/
def State.attemptLost (s : State) : State :=
  let a := s.tx.lose
  let t := { s with tx := a.2 }
  match a.1 with
  | .retry => t
  | .returned => t.beaconReturned
  | .discarded id => t.frameDiscarded id
  | .orphanEnded id => t.orphanDiscarded id

/-! ## The rate of a CONFIGURE (R147, R165) -/

/-- The Line Controller takes the rate of the configuration record and seeks idle. -/
def LineController.takeRate (l : LineController) (rate : Option (BitVec 2)) : LineController :=
  { l with phase := .seekingIdle, recessiveRun := 0, endBits := 0, decode := none, rate := rate, rateChange := false }

/-- A CONFIGURE reaches the Line Controller: at once, or once no frame of its own is on the line (R147). -/
def State.configureLine (s : State) : State :=
  if s.tx.flying?.isSome then { s with line := { s.line with rateChange := true } }
  else { s with line := s.line.takeRate (s.config.map (·.rate)) }

/-- An orphan that held a rate back has ended (R147, log 16). -/
def State.settleRate (s : State) : State :=
  if s.line.rateChange && s.tx.flying?.isNone then { s with line := s.line.takeRate (s.config.map (·.rate)) } else s

/-! ## The start of a frame (R133, R151, R64, R65) -/

/-- The frame as it goes out: a BEACON takes its stamp, states and digest at the start bit (R65, R30, R84). The digest is that after every frame
accepted before the BEACON (R30), so also after those that still wait to be handed inward (DEDUCED, log 55). -/
def State.outgoing (s : State) : Frame → Frame
  | .beacon b =>
    .beacon { b with
      stamp := s.now
      stationState := BitVec.ofNat 4 s.member.state.code
      timebaseState := BitVec.ofNat 2 s.timebase.state.code
      digest := s.allDelivered.digest }
  | f => f

/-- The decode right after a start bit, which is dominant. -/
def Rx.afterStart : Rx := Rx.start.feed false

/-- The line enters a frame with a role, its stamp latched (R64, R151). -/
def LineController.enterFrame (l : LineController) (role : Role) (now : Tick) : LineController :=
  { l with phase := .inFrame, recessiveRun := 0, endBits := 0, decode := some { role := role, stamp := now, rx := Rx.afterStart } }

/-- The candidate becomes the frame in flight and its start bit is driven, which this station reads as driven (R133, R151; DESIGN CHOICE, log 44). -/
def State.startFrame (s : State) (e : TxEntry) : State :=
  let f := s.outgoing e.frame
  { s with
    tx := s.tx.start e.frame.id f
    line := s.line.enterFrame (.sender ((encodeBody s.me f).drop 1)) s.now }

/-- An idle report (R132, R133). -/
def State.idleReport (s : State) : State :=
  if s.line.phase = .idle && s.tx.flying?.isNone && s.member.state.offers then
    match s.tx.candidate? with
    | some e => s.startFrame e
    | none => s
  else s

/-! ## Lost arbitration (R152) -/

/-- The start bit and the key: the first decoded bits of a body. -/
def keyEnd : Nat := 7

/-- Bit `k` of what a sender sends stands in the key: an inserted bit among the key bits is part of the comparison (R149, R151). -/
def inKey (rx : Rx) (toSend : List Level) (k : Nat) : Bool := ((toSend.take k).foldl Rx.feed rx).bits.length < keyEnd

/-- Bit `k` of the key as sent is recessive and was read dominant: arbitration was lost at it (R152). -/
def lostAt (rx : Rx) (toSend levels : List Level) (k : Nat) : Bool := toSend[k]? == some true && levels[k]? == some false && inKey rx toSend k

/-- No bit of the key was lost: its seven levels at most, one of them inserted (R149, R152). -/
def keyHeld (rx : Rx) (toSend levels : List Level) : Bool := (List.range keyEnd).all (fun k => !lostAt rx toSend levels k)

/-- The decode of a sender that has read these levels and sends a recessive bit of the key next. A dominant bit of the key read recessive is no lost
arbitration but a readback fault, which is recorded (R153, R154). -/
def readBack (levels : List Level) (rx : Rx) (toSend : List Level) : Option Rx :=
  let k := levels.length
  if toSend[k]? = some true && inKey rx toSend k && keyHeld rx toSend levels then
    some ((levels.foldl Rx.feed rx).note (levels != toSend.take k) .readback)
  else none

/-- The line after a lost arbitration: from that bit on a receiver, its count advanced (R152, R164). At an inserted bit the dominant level is an
inserted-bit violation in what it goes on to decode (R149, R154). A readback fault recorded before it stays recorded (R153). -/
def LineController.loseTo (l : LineController) (d : FrameDecode) (rx : Rx) : LineController :=
  { l with decode := some { d with role := .receiver, rx := rx.feed false }, recessiveRun := 0, arbitrationLosses := satInc16 l.arbitrationLosses }

/-- After these levels a bit of the key as sent is recessive and is read dominant (R149, R152). -/
def State.loseArbitration (s : State) (levels : List Level) : State :=
  match s.line.decode with
  | none => s
  | some d =>
    match d.role with
    | .receiver => s
    | .sender toSend =>
      match readBack levels d.rx toSend with
      | some rx => { s with line := s.line.loseTo d rx }.attemptLost.settleRate
      | none => s

/-! ## The close of the check window (R154, R155) -/

/-- The recessive run after one more level: a recessive bit adds one, up to 11, and a dominant one sets it to 0 (R148). -/
def countLevel (run : Nat) (b : Level) : Nat := if b then min Config.idleRun (run + 1) else 0

/-- The recessive run after more levels. -/
def countRun (run : Nat) (levels : List Level) : Nat := levels.foldl countLevel run

/-- The levels of a window that closes recessive. -/
def openWindow : List Level := [true, true]

/-- The body as this receiver located it has ended, without seven recessive bits in a row. An inserted bit due after the last CRC bit is taken to be
still inside the body, as R149 counts it, where spec/07 7.2 lets the body end with the CRC: a seventh recessive bit there ends the decode as missed
(R157) and is not vetoed as an inserted-bit violation (DEDUCED, log 48). -/
def Rx.closed (rx : Rx) : Bool := rx.bodyDone && !rx.lost

/-- A receiver's decode at the end of the body, if the levels end there. -/
def FrameDecode.atClose (d : FrameDecode) (levels : List Level) : Option Rx :=
  match d.rx.feedAll levels with
  | some rx => if rx.closed then some rx else none
  | none => none

/-- The line in the end field after a window, 8 bits of which are still to come, with the levels read since the last line command counted (R148,
R156). -/
def LineController.endField (l : LineController) (levels : List Level) (drove : Bool) : LineController :=
  { l with phase := .inFrame, recessiveRun := countRun l.recessiveRun levels, endBits := Config.endField, decode := none, vetoDriven := drove }

/-- The line after an accepted frame: the frame joins the delivery order (R158); the veto counts return to 0 (R160, R161), but for those of a
station in MUTE, which are kept (R162, log 14). -/
def LineController.accept (l : LineController) (st : StationState) (levels : List Level) (d : Delivered) : LineController :=
  { l.endField (levels ++ openWindow) false with
    delivery := l.delivery ++ [d]
    ownVetoes := if d.own && st != .mute then 0 else l.ownVetoes
    issuedVetoes := if st != .mute then 0 else l.issuedVetoes }

/-- The window closes recessive and this station decoded the frame without fault (R155). Acceptance of an own REVOKE makes room, and a MARKED entry is
queued at once (R24, R138), while the accepted one's holder entry stays QUEUED until the frame is handed inward: more than the 4 holder entries of
R24's count are then QUEUED until it is (DEDUCED, log 47). -/
def State.acceptFrame (s : State) (levels : List Level) : State :=
  match s.line.decode with
  | none => s
  | some d =>
    match d.rx.feedAll levels with
    | none => s
    | some rx =>
      match rx.frame with
      | none => s
      | some (sender, f) =>
        if rx.bodyDone && rx.fault.isNone then
          match d.role with
          | .receiver => { s with line := s.line.accept s.member.state levels { sender := sender, frame := f, stamp := d.stamp, own := false } }
          | .sender toSend =>
            if levels = toSend then
              { s with
                line := s.line.accept s.member.state levels { sender := sender, frame := f, stamp := d.stamp, own := true }
                tx := s.tx.accept }.serviceRevocations.settleRate
            else s
        else s

/-- Advances the own-frame veto count, but for an orphan and in the states without vetoes (R160). -/
def State.countOwnVeto (s : State) (counts : Bool) : State :=
  if counts then { s with line := { s.line with ownVetoes := s.line.ownVetoes + 1 } } else s

/-- Advances the issued-veto count (R161). -/
def State.countIssuedVeto (s : State) (counts : Bool) : State :=
  if counts then { s with line := { s.line with issuedVetoes := s.line.issuedVetoes + 1 } } else s

/-- The own-frame veto count has just been advanced: at its threshold the station mutes (R160, R162). -/
def State.muteOnOwn (s : State) (counted : Bool) : State :=
  if counted && s.line.ownVetoes == Config.ownVetoThreshold && s.member.state.offers then s.enterMute detailOwnVetoes Config.ownVetoThreshold else s

/-- The issued-veto count has just been advanced: at its threshold the station mutes (R161, R162). -/
def State.muteOnIssued (s : State) (counted : Bool) : State :=
  if counted && s.line.issuedVetoes == Config.issuedVetoThreshold && s.member.state.offers then s.enterMute detailIssuedVetoes Config.issuedVetoThreshold
  else s

/-- The frame in flight is an orphan (R142). -/
def State.orphanFlying (s : State) : Bool :=
  match s.tx.flying? with
  | some e => e.orphan
  | none => false

/-- This station's own frame is vetoed (R155, R160): the attempt ends at the Transmit Queue, then a count at its threshold mutes (log 13). -/
def State.ownVetoed (s : State) (levels : List Level) (misread : Bool) : State :=
  let offers := s.member.state.offers
  let counts := offers && !s.orphanFlying
  ((({ s with line := s.line.endField levels (misread && offers) }.countOwnVeto counts).attemptLost).muteOnOwn counts).settleRate

/-- Another station's frame is vetoed, by this station if it found a fault and its state vetoes (R154, R161). -/
def State.otherVetoed (s : State) (levels : List Level) (faulty : Bool) : State :=
  let drove := faulty && s.member.state.offers
  ({ s with line := s.line.endField levels drove }.countIssuedVeto drove).muteOnIssued drove

/-- The window closes dominant; `window` is its two levels (R155). A sender that read a recessive bit of its key dominant has lost arbitration and closes
no window as sender (R152; log 1). -/
def State.vetoFrame (s : State) (levels window : List Level) : State :=
  match s.line.decode with
  | none => s
  | some d =>
    match d.role with
    | .sender toSend =>
      if levels.length = toSend.length && keyHeld d.rx toSend levels then s.ownVetoed (levels ++ window) (levels != toSend) else s
    | .receiver =>
      match d.atClose levels with
      | some rx => s.otherVetoed (levels ++ window) rx.fault.isSome
      | none => s

/-! ## Missed frames (R157) -/

/-- Seven recessive bits in a row end a receiver's decode. -/
def State.missInBody (s : State) (levels : List Level) : State :=
  let counts := s.member.state.offers
  ({ s with line := { s.line with
      phase := .seekingIdle, recessiveRun := countRun s.line.recessiveRun levels, decode := none, vetoDriven := false } }.countIssuedVeto
    counts).muteOnIssued counts

/-- In a state that drives no veto, a frame found faulty is missed where the window closes recessive (R157, R163). -/
def State.missAtWindow (s : State) (levels : List Level) : State := { s with line := s.line.endField (levels ++ openWindow) false }

/-- An orphan misread by its own sender in such a state, with a recessive window: it ends and is discarded here (R154, R157, log 15). -/
def State.missOrphan (s : State) (levels : List Level) : State :=
  match s.tx.flying? with
  | none => s
  | some e => ({ s with line := s.line.endField (levels ++ openWindow) false, tx := s.tx.land }.orphanDiscarded e.frame.id).settleRate

/-- A frame is missed (R157). A sender that read a recessive bit of its key dominant is no sender any more (R152; log 1). -/
def State.missFrame (s : State) (levels : List Level) : State :=
  match s.line.decode with
  | none => s
  | some d =>
    match d.role with
    | .sender toSend =>
      if levels.length = toSend.length && levels != toSend && keyHeld d.rx toSend levels && s.orphanFlying && !s.member.state.offers then
        s.missOrphan levels
      else s
    | .receiver =>
      match d.rx.feedAll levels with
      | none => s
      | some rx =>
        if rx.lost then s.missInBody levels
        else if rx.bodyDone && rx.fault.isSome && !s.member.state.offers then s.missAtWindow levels
        else s

/-! ## Idle and start bits of others (R148, R151) -/

/-- The phase of a line on which no frame is decoded: IDLE once the recessive run has reached 11, else SEEKING_IDLE (R148, R156). -/
def phaseAfter (run : Nat) : LinePhase := if run = Config.idleRun then .idle else .seekingIdle

/-- One bit read with no frame being decoded: in SEEKING_IDLE, or in an end field, whose last bit ends it (R148, R156). On an idle line, in a frame's
body and in SILENT the bit is not read here. -/
def LineController.readBit (l : LineController) (b : Level) : LineController :=
  let run := countLevel l.recessiveRun b
  match l.phase, l.decode with
  | .seekingIdle, _ => { l with recessiveRun := run, phase := phaseAfter run }
  | .inFrame, none => { l with recessiveRun := run, endBits := l.endBits - 1, phase := if 1 < l.endBits then .inFrame else phaseAfter run }
  | .inFrame, some _ => l
  | .silent, _ => l
  | .idle, _ => l

/-- A recessive bit read with no frame being decoded (R148). -/
def State.recessiveRead (s : State) : State := { s with line := s.line.readBit true }

/-- A dominant bit that this station did not drive: a start bit in IDLE (R148, R151); before idle it is none, and counts like any bit (R156). -/
def State.dominantRead (s : State) : State :=
  match s.line.phase with
  | .idle => { s with line := s.line.enterFrame .receiver s.now }
  | .seekingIdle | .inFrame | .silent => { s with line := s.line.readBit false }

end Sys2Proof.Machine
end

