-- ==== Sys2Proof/Machine/Commands.lean ====
section
/-! DEFINITION. The Command Engine (R169 to R173) and the meanings of the takings: one record, the oldest, is taken, checked in the order of R172, and
acted on or answered REFUSED. -/

namespace Sys2Proof.Machine

/-! ## Taking and refusing (R170, R172, R173) -/

/-- The REFUSED event (R173). -/
def CommandRecord.refusal (r : CommandRecord) (reason : RefusedReason) (subject : Byte) : EventRecord :=
  { kind := .refused, tag := r.tag, subject := subject, grant := 0, detail := reason.code, count := r.kind }

/-- The record is removed from the Command Queue (R169, R170). -/
def State.dropCommand (s : State) : State := { s with host := { s.host with commands := s.host.commands.tail } }

/-- A taken record of a kind is checked for station state and ranges (R172, checks 3 and 4), then acted on; the serving block may refuse it. -/
def State.serve (s : State) (k : CommandKind) (r : CommandRecord) (act : CommandRecord → State → Except RefusedReason State) : State :=
  if !k.takenIn s.member.state then s.place (r.refusal .state (r.refusedSubject k))
  else if !r.inRange s.cfg k then s.place (r.refusal .range (r.refusedSubject k))
  else
    match act r s with
    | .ok t => t
    | .error reason => s.place (r.refusal reason (r.refusedSubject k))

/-- The Command Engine takes the oldest record, where it is a valid record of this kind (R170). -/
def State.takeRecord (s : State) (k : CommandKind) (act : CommandRecord → State → Except RefusedReason State) : State :=
  match s.host.commands with
  | [] => s
  | r :: _ => if r.validKind = some k then s.answering (fun t => t.dropCommand.serve k r act) else s

/-! ## Records refused with CHECK or KIND (R171, R172) -/

/-- The first of checks 1 and 2 that a record fails, if one does. -/
def CommandRecord.badReason (r : CommandRecord) : Option RefusedReason :=
  if !r.checkOk then some .check else if (CommandKind.ofCode r.kind).isNone then some .kind else none

/-- BAD_COMMAND_RECORD. -/
def execBadCommandRecord (s : State) : Host.Outcome State Fault Refusal :=
  .next (match s.host.commands with
    | [] => s
    | r :: _ =>
      match r.badReason with
      | some reason => s.answering (fun t => t.dropCommand.place (r.refusal reason 0))
      | none => s)

/-! ## CONFIGURE (R98, R70, R147) -/

/-- The CONFIGURED event (R98). -/
def CommandRecord.configured (r : CommandRecord) : EventRecord :=
  { kind := .configured, tag := r.tag, subject := stationByte r.station, grant := r.config.profile, detail := 0, count := 0 }

/-- The configuration record replaces the old one, the state becomes OFFLINE, the round restarts and the line takes its rate. -/
def State.configure (s : State) (r : CommandRecord) : State :=
  let t := { s with config := some r.config, member := { s.member with state := .offline } }
  t.restartRound.configureLine.place r.configured

/-- CONFIGURE. -/
def execConfigure (s : State) : Host.Outcome State Fault Refusal := .next (s.takeRecord .configure (fun r t => .ok (t.configure r)))

/-! ## JOIN (R100) -/

/-- A new incarnation, the tag recorded, LISTEN with its window. -/
def State.startJoin (s : State) (tag : Byte) : State :=
  let t := s.drawIncarnation
  { t with member := { t.member with
      joinTag := some tag
      failures := 0
      state := .listen
      listenWindow := some (s.now + s.beaconPeriods (s.cfg.misses.toNat + 1)) } }

/-- JOIN. -/
def execJoin (s : State) : Host.Outcome State Fault Refusal := .next (s.takeRecord .join (fun r t => .ok (t.startJoin r.tag)))

/-! ## LEAVE (R124, R125, R126) -/

/-- A QUIT is already queued, or recorded to follow. -/
def State.hasQuit (s : State) : Bool :=
  match s.member.own with
  | some o => o.kind == .quit || o.next == some .quit
  | none => false

/-- LEAVE by a station that is a member, a founder or an accepted applicant: LEAVING, with a QUIT queued or kept (R124, first row). -/
def State.leaveByQuit (s : State) (tag : Byte) : State :=
  let t := s.enterLeaving tag
  if t.hasQuit then t else t.queueOwn .quit

/-- An own frame recorded to follow is dropped on entry to LEAVING (R126). -/
def State.dropNextOwn (s : State) : State :=
  { s with member := { s.member with own := s.member.own.map (fun o => { o with next := none }) } }

/-- LEAVE by a station that is not yet a member (R124, second and third rows). -/
def State.leaveEarly (s : State) (tag : Byte) : State :=
  let w := s.withdrawOwn
  if w.1 then (w.2.enterLeaving tag).dropNextOwn else w.2.leaveEnds tag

/-- R124's table. -/
def State.startLeave (s : State) (tag : Byte) : State :=
  match s.member.state with
  | .online | .founding | .catchup => s.leaveByQuit tag
  | .joining => if s.member.attempt.isSome then s.leaveByQuit tag else s.leaveEarly tag
  | .listen => s.leaveEarly tag
  | .mute => s.leaveEnds tag
  | .unconfigured | .offline | .leaving => s

/-- LEAVE. -/
def execLeave (s : State) : Host.Outcome State Fault Refusal := .next (s.takeRecord .leave (fun r t => .ok (t.startLeave r.tag)))

/-! ## Lease commands (R38, R39, R45, R49, R51) -/

/-- ACQUIRE. -/
def execAcquire (s : State) : Host.Outcome State Fault Refusal := .next (s.takeRecord .acquire (fun r t => t.actAcquire r))

/-- RELEASE. -/
def execRelease (s : State) : Host.Outcome State Fault Refusal := .next (s.takeRecord .release (fun r t => t.actRelease r))

/-- RENEW. -/
def execRenew (s : State) : Host.Outcome State Fault Refusal := .next (s.takeRecord .renew (fun r t => t.actRenew r))

/-- CANCEL. -/
def execCancel (s : State) : Host.Outcome State Fault Refusal := .next (s.takeRecord .cancel (fun r t => t.actCancel r))

end Sys2Proof.Machine
end

