-- ==== Sys2Proof/Machine/LineEvents.lean ====
section
/-! DEFINITION. The meanings of the line commands (spec/07). Where the command's event cannot occur, nothing changes (log 1). -/

namespace Sys2Proof.Machine

/-- FRAME_START (R133, R151). -/
def execFrameStart (s : State) : Host.Outcome State Fault Refusal := .next s.idleReport

/-- ARBITRATION_LOSS at a bit of the key as sent, after these levels (R149, R152, R153). -/
def execArbitrationLoss (levels : List Level) (s : State) : Host.Outcome State Fault Refusal := .next (s.loseArbitration levels)

/-- FRAME_ACCEPTED (R155, R158). -/
def execFrameAccepted (levels : List Level) (s : State) : Host.Outcome State Fault Refusal := .next (s.acceptFrame levels)

/-- FRAME_VETOED (R155, R160, R161). With both levels of the window recessive the frame is not vetoed (log 1). -/
def execFrameVetoed (read : VetoedRead) (s : State) : Host.Outcome State Fault Refusal :=
  .next (if read.first && read.second then s else s.vetoFrame read.body [read.first, read.second])

/-- MISSED_FRAME (R157). -/
def execMissedFrame (levels : List Level) (s : State) : Host.Outcome State Fault Refusal := .next (s.missFrame levels)

/-- LINE_IDLE (R148, R156; log 10). -/
def execLineIdle (s : State) : Host.Outcome State Fault Refusal := .next s.recessiveRead

/-- START_BIT_READ (R148, R151). -/
def execStartBitRead (s : State) : Host.Outcome State Fault Refusal := .next s.dominantRead

end Sys2Proof.Machine
end

