-- ==== Sys2Proof/Machine/Access.lean ====
section
/-! DEFINITION. The SPI access kinds and their codes (R166, R190). -/

namespace Sys2Proof.Machine

/-- The six access kinds (R166, R190). -/
inductive AccessKind where
  | putCommand | takeEvent | readStatus | readLease | readRoster | portReset
  deriving DecidableEq, Repr

/-- The access codes of R190. -/
def AccessKind.code : AccessKind → Byte
  | .putCommand => 0x01
  | .takeEvent => 0x02
  | .readStatus => 0x03
  | .readLease => 0x04
  | .readRoster => 0x05
  | .portReset => 0x0F

/-- The access kind a byte names, if any (R190). -/
def AccessKind.ofCode (b : Byte) : Option AccessKind :=
  [AccessKind.putCommand, .takeEvent, .readStatus, .readLease, .readRoster, .portReset].find? (fun k => k.code == b)

end Sys2Proof.Machine
end

