-- ==== Sys2Proof/Machine/Views.lean ====
section
/-! DEFINITION. The three views of the Host Port, byte by byte (R180 to R183; layouts R191, R192). -/

namespace Sys2Proof.Machine

/-- A byte from a number. -/
def byteOf (n : Nat) : Byte := BitVec.ofNat 8 n

/-- A flag of weight `2 ^ bit`. -/
def flagAt (bit : Nat) (b : Bool) : Nat := if b then 2 ^ bit else 0

/-! ## The status block (R181, R191) -/

/-- The admission record as the status block shows it: CLOSED while the roster is not live (R181). -/
def State.shownAdmission (s : State) : Option Admission := if s.member.rosterLive then s.member.admission else none

/-- The trim word in its ten bits (R191). -/
def Timebase.trimBits (t : Timebase) : BitVec 10 := BitVec.ofInt 10 t.trim

/-- Bytes 0 to 3: states, station, admission flags, ONLINE peer count, incarnation. -/
def State.statusHead (s : State) : List Byte :=
  let opened := s.shownAdmission
  [ byteOf (16 * s.member.state.code + s.me.val),
    byteOf (64 * s.timebase.state.code + flagAt 5 opened.isSome
      + flagAt 4 (match opened with | some a => a.admitter == s.me | none => false) + s.onlinePeers) ]
    ++ word16Bytes (s.member.incarnation.getD 0)

/-- Bytes 4 to 8: the configuration echo, with the Command Queue occupancy; all 0 when unconfigured. -/
def State.statusConfig (s : State) : List Byte :=
  let c := s.cfg
  [ byteOf (64 * c.rate.toNat + 8 * s.host.commands.length + c.misses.toNat),
    c.beaconPeriod,
    c.guard,
    byteOf (match s.config with | some k => k.resourceCount | none => 0),
    c.groupKey ]

/-- Bytes 9 to 23: veto counts, trim word, occupancies, counts, sequence number, digest, admission stations. -/
def State.statusCounts (s : State) : List Byte :=
  let opened := s.shownAdmission
  [ byteOf (8 * s.line.ownVetoes + (s.timebase.trimBits.extractLsb' 8 2).toNat),
    s.timebase.trimBits.extractLsb' 0 8,
    byteOf s.host.events.length,
    byteOf s.tx.entries.length,
    byteOf s.host.dropped ]
    ++ word16Bytes s.replica.shown.seq ++ word16Bytes s.digest
    ++ [ byteOf (match opened with | some a => 16 * a.joiner.val + a.admitter.val | none => 0), byteOf s.line.issuedVetoes ]
    ++ word16Bytes s.line.arbitrationLosses ++ word16Bytes s.replica.stale

/-- The status block: 24 bytes. -/
def State.statusBlock (s : State) : List Byte := s.statusHead ++ s.statusConfig ++ s.statusCounts

/-! ## The lease view (R182, R192) -/

/-- A set of stations as 16 bits: station n has weight 2^n (R192). -/
def stationSet (p : Station → Bool) : Word16 := BitVec.ofNat 16 (((List.finRange 16).map (fun n => flagAt n.val (p n))).sum)

/-- The time remaining to a deadline in whole LTU: 0 once reached, 65535 for anything longer (R182). -/
def timeRemaining (now deadline : Tick) : Word16 :=
  if reached now deadline then 0 else BitVec.ofNat 16 (min 65535 ((deadline - now).toNat / 64))

/-- Byte 10: the head waiter. -/
def ResourceEntry.headByte (e : ResourceEntry) : Byte :=
  match e.waiters with
  | [] => 0
  | w :: _ => byteOf (128 + 16 * w.mode.code.toNat + w.station.val)

/-- The position of a station in the wait list, from 1; 0 where it does not wait. -/
def ResourceEntry.position (e : ResourceEntry) (s : Station) : Nat :=
  match e.waiters.findIdx? (fun w => w.station == s) with
  | some i => i + 1
  | none => 0

/-- Byte 11: the own role. -/
def ResourceEntry.roleByte (e : ResourceEntry) (me : Station) : Byte :=
  if (e.holder? me).isSome then byteOf 64
  else if (e.waiter? me).isSome then byteOf (128 + e.position me)
  else 0

/-- Bytes 12 to 15: own grant number and own time remaining; 0 unless HOLDER. -/
def ResourceEntry.ownBytes (e : ResourceEntry) (me : Station) (now : Tick) : List Byte :=
  match e.holder? me with
  | some h => word16Bytes h.grant ++ word16Bytes (timeRemaining now h.deadline)
  | none => [0, 0, 0, 0]

/-- The lease view of an entry, after its first byte. -/
def ResourceEntry.viewBytes (e : ResourceEntry) (me : Station) (now : Tick) : List Byte :=
  [byteOf e.state.code] ++ word16Bytes e.counter ++ [byteOf e.holders.length, byteOf e.waiters.length]
    ++ word16Bytes (stationSet (fun n => (e.holder? n).isSome)) ++ word16Bytes (stationSet (fun n => (e.waiter? n).isSome))
    ++ [e.headByte, e.roleByte me] ++ e.ownBytes me now

/-- The lease view: 16 bytes; INVALID for a number above 63 (R182, R190, R192). -/
def State.leaseView (s : State) (named : Byte) : List Byte :=
  if 63 < named.toNat then named :: 0xFF :: List.replicate 14 0
  else named :: (s.replica.shown.entry named.toNat).viewBytes s.me s.now

/-! ## The roster view (R183, R192) -/

/-- The roster entry as the view shows it: while the roster is not live, ABSENT but for its incarnation (R183). -/
def State.shownPeer (s : State) (p : Station) : RosterEntry := if s.member.rosterLive then s.peer p else (s.peer p).discard

/-- Whether a station number is this station's own. An unconfigured station has none, though its views show 0 (DESIGN CHOICE, log 45). -/
def State.isOwn (s : State) (p : Station) : Bool := s.config.isSome && p == s.me

/-- The last-heard age in whole beacon periods, saturating at 255; 0 where nothing was heard (R183). -/
def State.heardAge (s : State) (heard : Option Tick) : Nat :=
  match heard with
  | some t => min 255 ((s.now - t).toNat / (64 * s.cfg.beaconPeriod.toNat))
  | none => 0

/-- Byte 4: the reported states; 0 where no beacon is recorded or a reported state is absent (R192, R195). Where only one of a BEACON's two codes has no
meaning, its field alone reads 0 (DEDUCED, log 52). -/
def RosterEntry.reportedByte (e : RosterEntry) : Byte :=
  if e.beacon.isSome then
    byteOf (16 * (match e.reportedState with | some st => st.code | none => 0) + (match e.reportedTimebase with | some t => t.code | none => 0))
  else 0

/-- Byte 6: the flags. -/
def RosterEntry.flagsByte (e : RosterEntry) (own : Bool) : Byte :=
  byteOf (flagAt 6 own + flagAt 5 e.divergence + flagAt 4 e.beacon.isSome + flagAt 3 e.departQueued + flagAt 2 e.lastHeard.isSome
    + flagAt 1 e.presence.isSome + flagAt 0 e.incarnation.isSome)

/-- The roster view: 8 bytes; INVALID for a number above 15 (R183, R190, R192). -/
def State.rosterView (s : State) (named : Byte) : List Byte :=
  if 15 < named.toNat then named :: 0xFF :: List.replicate 6 0
  else
    let p := stationOf named
    let e := s.shownPeer p
    named :: byteOf e.state.code :: word16Bytes (e.incarnation.getD 0)
      ++ [e.reportedByte, byteOf e.outliers, e.flagsByte (s.isOwn p), byteOf (s.heardAge e.lastHeard)]

end Sys2Proof.Machine
end

