-- ==== Sys2Proof/Machine/Spi.lean ====
section
/-! DEFINITION. The meanings of the SPI transactions (R166 to R169, R174 to R184, R190), edge by edge: CS_N falls, bytes are clocked, CS_N rises. -/

namespace Sys2Proof.Machine

/-! ## One transaction (R166, R167, R186) -/

/-- Replaces the transaction. -/
def State.setTransaction (s : State) (t : Option Transaction) : State := { s with host := { s.host with transaction := t } }

/-- The transaction that begins when CS_N falls: the port byte is latched; while RST_N is low it is void (R166, R186). -/
def HostPort.begun (h : HostPort) : Transaction :=
  { standing := if h.rstN then .taken else .void
    portByte := h.portByte, access := none, mosi := [], answer := [], place := false, record := false, sdo := [] }

/-- The end of the access byte: the port byte has been clocked out with it (R166). -/
def Transaction.named (t : Transaction) (access : Byte) : Transaction := { t with access := some access, sdo := t.sdo ++ [t.portByte] }

/-- A byte after the access byte: the next latched byte is clocked out with it, or 0x00 (R166). -/
def Transaction.clocked (t : Transaction) (b : Byte) : Transaction :=
  { t with mosi := t.mosi ++ [b], answer := t.answer.tail, sdo := t.sdo ++ [t.answer.headD 0] }

/-- A byte clocked while the port has not taken the transaction: ignored. A void one clocks out 0x00 once RST_N is high again; one cut off leaves SDO at
high impedance (R166, R186, log 46). -/
def State.ignoreByte (s : State) (t : Transaction) : State :=
  match t.standing with
  | .void => if s.host.rstN then s.setTransaction (some { t with sdo := t.sdo ++ [0] }) else s
  | .cutOff | .taken => s

/-- One edge of a transaction whose access byte the row owns. `latch` is what the end of the access byte latches, `byteDone` the effect of a byte clocked
after it, `closed` the effect of CS_N rising; an edge that cannot occur, or belongs to another row's transaction, changes nothing (log 1). -/
def State.spi (s : State) (e : SpiEdge) (owns : Byte → Bool) (latch : State → Transaction → Transaction)
    (byteDone closed : Transaction → State → State) : State :=
  match s.host.transaction with
  | none =>
    match e with
    | .csFalls => s.setTransaction (some s.host.begun)
    | .byte _ | .csRises => s
  | some t =>
    match e, t.standing, t.access with
    | .csFalls, _, _ => s
    | .byte b, .taken, none => if owns b then s.setTransaction (some (latch s (t.named b))) else s
    | .byte b, .taken, some a => if owns a then byteDone (t.clocked b) (s.setTransaction (some (t.clocked b))) else s
    | .byte _, .cutOff, _ => s.ignoreByte t
    | .byte _, .void, _ => s.ignoreByte t
    | .csRises, .taken, some a => if owns a then closed t (s.setTransaction none) else s
    | .csRises, .taken, none => s.setTransaction none
    | .csRises, .cutOff, _ => s.setTransaction none
    | .csRises, .void, _ => s.setTransaction none

/-- The access byte names this kind. -/
def AccessKind.owns (k : AccessKind) (b : Byte) : Bool := b == k.code

/-- Nothing happens with a byte, or with CS_N rising. -/
def noEffect (_ : Transaction) (s : State) : State := s

/-! ## PUT_COMMAND (R168, R169) -/

/-- The Command Queue has a place (R168). -/
def HostPort.hasPlace (h : HostPort) : Bool := h.commands.length < Config.commandQueueSize

/-- The response byte (R168, R190). -/
def HostPort.response (h : HostPort) : Byte := if h.hasPlace then responseAccept else responseFull

/-- The end of the access byte: the response byte is decided, and a place held (R168). -/
def latchResponse (s : State) (t : Transaction) : Transaction := { t with answer := [s.host.response], place := s.host.hasPlace }

/-- The record answered ACCEPT goes to the tail, if all eight bytes were clocked (R167, R168). -/
def HostPort.putRecord (h : HostPort) (mosi : List Byte) : HostPort :=
  match CommandRecord.ofBytes mosi with
  | some r => { h with commands := h.commands ++ [r] }
  | none => h

/-- CS_N rises: the held place is used, or freed (R167, R168). -/
def putClosed (t : Transaction) (s : State) : State := if t.place then { s with host := s.host.putRecord t.mosi } else s

/-- PUT_COMMAND. -/
def execPutCommand (e : SpiEdge) (s : State) : Host.Outcome State Fault Refusal :=
  .next (s.spi e AccessKind.putCommand.owns latchResponse noEffect putClosed)

/-! ## TAKE_EVENT (R176, R177, R179) -/

/-- The OVERRUN event (R176). -/
def overrunEvent (dropped : Nat) : EventRecord :=
  { kind := .overrun, tag := 0, subject := 0, grant := 0, detail := 0, count := BitVec.ofNat 8 dropped }

/-- The events after a removal: OVERRUN follows where some were dropped (R176). -/
def HostPort.afterTake (h : HostPort) (rest : List EventRecord) : List EventRecord :=
  if h.dropped = 0 then rest else rest ++ [overrunEvent h.dropped]

/-- The head record leaves; ATTN_N is high when none is left (R174, R179). -/
def HostPort.take (h : HostPort) : HostPort :=
  match h.events with
  | [] => h
  | _ :: rest => { h with events := h.afterTake rest, dropped := 0, attnN := (h.afterTake rest).isEmpty }

/-- What a TAKE_EVENT clocks out: the head record, or NONE (R177). -/
def HostPort.headBytes (h : HostPort) : List Byte :=
  match h.events with
  | [] => noneRecord
  | e :: _ => e.bytes

/-- The end of the access byte: the head record is latched, or NONE (R177). -/
def latchHead (s : State) (t : Transaction) : Transaction := { t with answer := s.host.headBytes, record := !s.host.events.isEmpty }

/-- The last bit of the eighth byte: the record clocked out leaves (R167, R177). -/
def takeClocked (t : Transaction) (s : State) : State := if t.record && t.mosi.length == 8 then { s with host := s.host.take } else s

/-- TAKE_EVENT. -/
def execTakeEvent (e : SpiEdge) (s : State) : Host.Outcome State Fault Refusal :=
  .next (s.spi e AccessKind.takeEvent.owns latchHead takeClocked noEffect)

/-! ## Views and void accesses (R166, R180) -/

/-- The end of the access byte: the status block is taken (R180, R181). -/
def latchStatus (s : State) (t : Transaction) : Transaction := { t with answer := s.statusBlock }

/-- READ_STATUS. -/
def execReadStatus (e : SpiEdge) (s : State) : Host.Outcome State Fault Refusal :=
  .next (s.spi e AccessKind.readStatus.owns latchStatus noEffect noEffect)

/-- Nothing is latched: 0x00 is clocked out. -/
def latchNothing (_ : State) (t : Transaction) : Transaction := t

/-- The end of the byte that names a resource or a station: the view is taken (R180). -/
def viewNamed (view : State → Byte → List Byte) (t : Transaction) (s : State) : State :=
  match t.mosi with
  | [b] => s.setTransaction (some { t with answer := view s b })
  | _ => s

/-- READ_LEASE. -/
def execReadLease (e : SpiEdge) (s : State) : Host.Outcome State Fault Refusal :=
  .next (s.spi e AccessKind.readLease.owns latchNothing (viewNamed State.leaseView) noEffect)

/-- READ_ROSTER. -/
def execReadRoster (e : SpiEdge) (s : State) : Host.Outcome State Fault Refusal :=
  .next (s.spi e AccessKind.readRoster.owns latchNothing (viewNamed State.rosterView) noEffect)

/-- The access byte is this one, which names no access kind (R166, R190). -/
def namesNoKind (access b : Byte) : Bool := b == access && (AccessKind.ofCode access).isNone

/-- VOID_ACCESS: zeros, and nothing changes. -/
def execVoidAccess (access : Byte) (e : SpiEdge) (s : State) : Host.Outcome State Fault Refusal :=
  .next (s.spi e (namesNoKind access) latchNothing noEffect noEffect)

/-! ## PORT_RESET (R184) -/

/-- The PORT_RESET event, with the numbers of records discarded. -/
def State.portResetEvent (s : State) : EventRecord :=
  s.stationEvent .portReset 0 (BitVec.ofNat 16 s.host.events.length) 0 (BitVec.ofNat 8 s.host.commands.length)

/-- Both queues emptied, the dropped-event count 0, then one record appended; ATTN_N is low after it (R179, R184). -/
def HostPort.portReset (h : HostPort) (e : EventRecord) : HostPort := { h with commands := [], events := [e], dropped := 0, attnN := false }

/-- CS_N rises after the access byte (R167, R184). -/
def resetClosed (_ : Transaction) (s : State) : State := { s with host := s.host.portReset s.portResetEvent }

/-- PORT_RESET. -/
def execPortReset (e : SpiEdge) (s : State) : Host.Outcome State Fault Refusal :=
  .next (s.spi e AccessKind.portReset.owns latchNothing noEffect resetClosed)

end Sys2Proof.Machine
end

