-- ==== Sys2Proof/Machine/Timers.lean ====
section
/-! DEFINITION. The meanings of the expiry commands (R62). An expiry whose deadline is absent or not yet reached cannot occur, and changes nothing
(log 1, log 4). -/

namespace Sys2Proof.Machine

/-! ## Replica deadlines (R23) -/

/-- An expired entry: QUEUED with its REVOKE where the station is ONLINE and the revocation group has room, MARKED otherwise (R23). -/
def State.expireHolder (s : State) (r : Fin 64) (h : Holder) : State :=
  let ins := s.tx.insert (.revoke (BitVec.ofNat 8 r.val) h.station h.grant)
  if s.member.state = .online && ins.1 then { s with tx := ins.2, replica := s.replica.setRevocation r.val h.station .queued }
  else { s with replica := s.replica.setRevocation r.val h.station .marked }

/-- The replica deadline of a watched holder entry is reached (R23). -/
def State.replicaExpiry (s : State) (r : Fin 64) (holder : Station) : State :=
  match (s.replica.entry r.val).holder? holder with
  | some h => if h.revocation = some .watching && reached s.now h.deadline then s.expireHolder r h else s
  | none => s

/-- REPLICA_DEADLINE. -/
def execReplicaDeadline (resource : Fin 64) (holder : Station) (s : State) : Host.Outcome State Fault Refusal :=
  .next (s.replicaExpiry resource holder)

/-! ## Self-expiry (R43, R48) -/

/-- SELF_EXPIRY. -/
def execSelfExpiry (slot : Fin 8) (s : State) : Host.Outcome State Fault Refusal :=
  .next (if expired s.now (s.slot slot).deadline then s.selfExpire slot else s)

/-! ## Presence (R88) -/

/-- The presence deadline of a peer is reached: while ONLINE, DEPART is queued, unless one already is; the deadline is removed (R88). -/
def State.presenceExpiry (s : State) (p : Station) : State :=
  let e := s.peer p
  if s.member.state = .online && expired s.now e.presence then
    if e.departQueued then s.setPeer p { e with presence := none }
    else (s.setPeer p { e with presence := none, departQueued := true }).queueFrame (.depart p)
  else s

/-- PRESENCE_DEADLINE. -/
def execPresenceDeadline (station : Station) (s : State) : Host.Outcome State Fault Refusal := .next (s.presenceExpiry station)

/-! ## The beacon schedule (R82, R83) -/

/-- The counter advances and the next deadline is set. -/
def State.advanceBeacon (s : State) (d : Tick) : State :=
  { s with member := { s.member with beaconCounter := s.member.beaconCounter + 1, beaconDeadline := some (d + s.beaconPeriods 1) } }

/-- The BEACON is refreshed, left with a pending firing, or queued (R83). -/
def State.fireBeacon (s : State) : State :=
  let q := s.tx.refresh s.member.beaconCounter s.digest
  match q.1 with
  | .refreshed => { s with tx := q.2 }
  | .onLine => { s with tx := q.2, member := { s.member with beaconPending := true } }
  | .notFound => s.queueBeacon

/-- BEACON_SCHEDULE. -/
def execBeaconSchedule (s : State) : Host.Outcome State Fault Refusal :=
  .next (match s.member.beaconDeadline with
    | some d => if reached s.now d then (s.advanceBeacon d).fireBeacon else s
    | none => s)

/-! ## Listening, founding, joining (R102, R105, R120, R123) -/

/-- LISTEN_WINDOW: the window has passed silent, and FOUND is queued (R102). -/
def execListenWindow (s : State) : Host.Outcome State Fault Refusal :=
  .next (if s.member.state = .listen && expired s.now s.member.listenWindow then
      { s with member := { s.member with listenWindow := none } }.queueOwn .found
    else s)

/-- FOUNDING_PERIOD: the founder becomes ONLINE (R105). -/
def execFoundingPeriod (s : State) : Host.Outcome State Fault Refusal :=
  .next (if s.member.state = .founding && !s.member.abandoning && expired s.now s.member.foundingPeriod then s.enterOnline else s)

/-- An attempt runs that its timer can still fail: one in phase AWAITING or COLLECTING (R120). -/
def State.attemptRuns (s : State) : Bool :=
  match s.member.attempt with
  | none => false
  | some a => match a.phase with
    | .awaiting | .collecting => true
    | .closing _ => false

/-- JOIN_ATTEMPT_TIMER: the attempt fails with reason TIMEOUT (R120). -/
def execJoinAttemptTimer (s : State) : Host.Outcome State Fault Refusal :=
  .next (if (s.member.state = .joining || s.member.state = .catchup) && s.attemptRuns && expired s.now s.member.joinTimer then s.failAttempt .timeout
    else s)

/-- JOIN_BACKOFF: a new attempt under a new incarnation (R123). -/
def execJoinBackoff (s : State) : Host.Outcome State Fault Refusal :=
  .next (if s.member.state = .joining && expired s.now s.member.backoff then
      { s with member := { s.member with backoff := none } }.drawIncarnation.queueOwn .apply
    else s)

/-! ## The discipline round (R70 to R73) -/

/-- ROUND_END. -/
def execRoundEnd (s : State) : Host.Outcome State Fault Refusal :=
  .next (match s.timebase.roundDeadline with
    | some d => if reached s.now d then s.endRound d else s
    | none => s)

end Sys2Proof.Machine
end

