-- ==== Sys2Proof/Machine/Dispatch.lean ====
section
/-! DEFINITION. Dispatch: each command to its meaning. -/

namespace Sys2Proof.Machine

/-- The effect of a command on everything but the queue of waiting commands. -/
def exec (i : Instr) (s : State) : Host.Outcome State Fault Refusal :=
  match i with
  | .deviceReset => Sys2Proof.Machine.execDeviceReset s
  | .fineTick => Sys2Proof.Machine.execFineTick s
  | .putCommand edge => Sys2Proof.Machine.execPutCommand edge s
  | .takeEvent edge => Sys2Proof.Machine.execTakeEvent edge s
  | .readStatus edge => Sys2Proof.Machine.execReadStatus edge s
  | .readLease edge => Sys2Proof.Machine.execReadLease edge s
  | .readRoster edge => Sys2Proof.Machine.execReadRoster edge s
  | .portReset edge => Sys2Proof.Machine.execPortReset edge s
  | .voidAccess access edge => Sys2Proof.Machine.execVoidAccess access edge s
  | .badCommandRecord => Sys2Proof.Machine.execBadCommandRecord s
  | .configure => Sys2Proof.Machine.execConfigure s
  | .join => Sys2Proof.Machine.execJoin s
  | .leave => Sys2Proof.Machine.execLeave s
  | .acquire => Sys2Proof.Machine.execAcquire s
  | .release => Sys2Proof.Machine.execRelease s
  | .renew => Sys2Proof.Machine.execRenew s
  | .cancel => Sys2Proof.Machine.execCancel s
  | .frameStart => Sys2Proof.Machine.execFrameStart s
  | .arbitrationLoss levels => Sys2Proof.Machine.execArbitrationLoss levels s
  | .frameAccepted levels => Sys2Proof.Machine.execFrameAccepted levels s
  | .frameVetoed read => Sys2Proof.Machine.execFrameVetoed read s
  | .missedFrame levels => Sys2Proof.Machine.execMissedFrame levels s
  | .claimFrame => Sys2Proof.Machine.execClaimFrame s
  | .dropFrame => Sys2Proof.Machine.execDropFrame s
  | .extendFrame => Sys2Proof.Machine.execExtendFrame s
  | .withdrawFrame => Sys2Proof.Machine.execWithdrawFrame s
  | .revokeFrame => Sys2Proof.Machine.execRevokeFrame s
  | .quitFrame => Sys2Proof.Machine.execQuitFrame s
  | .departFrame => Sys2Proof.Machine.execDepartFrame s
  | .foundFrame => Sys2Proof.Machine.execFoundFrame s
  | .applyFrame => Sys2Proof.Machine.execApplyFrame s
  | .admitFrame => Sys2Proof.Machine.execAdmitFrame s
  | .declineFrame => Sys2Proof.Machine.execDeclineFrame s
  | .snapshotFrame => Sys2Proof.Machine.execSnapshotFrame s
  | .snapEndFrame => Sys2Proof.Machine.execSnapEndFrame s
  | .beaconFrame => Sys2Proof.Machine.execBeaconFrame s
  | .replicaDeadline resource holder => Sys2Proof.Machine.execReplicaDeadline resource holder s
  | .selfExpiry slot => Sys2Proof.Machine.execSelfExpiry slot s
  | .presenceDeadline station => Sys2Proof.Machine.execPresenceDeadline station s
  | .beaconSchedule => Sys2Proof.Machine.execBeaconSchedule s
  | .listenWindow => Sys2Proof.Machine.execListenWindow s
  | .foundingPeriod => Sys2Proof.Machine.execFoundingPeriod s
  | .joinAttemptTimer => Sys2Proof.Machine.execJoinAttemptTimer s
  | .joinBackoff => Sys2Proof.Machine.execJoinBackoff s
  | .roundEnd => Sys2Proof.Machine.execRoundEnd s
  | .lineIdle => Sys2Proof.Machine.execLineIdle s
  | .startBitRead => Sys2Proof.Machine.execStartBitRead s

end Sys2Proof.Machine
end

