-- ==== Sys2Proof/WellFormed.lean ====
section
/-! DEFINITION. When a command is well formed: its operands could be what the row of the opcode table describes. -/

namespace Sys2Proof

/-- Longest body on the line: 417 bits before insertion (spec/07 7.2), plus at most one inserted bit for each five. -/
def maxLevels : Nat := 417 + 84

/-- A void access names no access kind (R166); the levels of a line command are some, and no more than a body holds; those before a lost key bit are at most six (R149, R152); a window that vetoes reads dominant in one bit at least (R155). -/
def Instr.wellFormed : Instr → Bool
  | .frameAccepted levels => 0 < levels.length && levels.length ≤ maxLevels
  | .frameVetoed read => 0 < read.body.length && read.body.length ≤ maxLevels && !(read.first && read.second)
  | .arbitrationLoss levels => levels.length ≤ 6
  | .missedFrame levels => 0 < levels.length && levels.length ≤ maxLevels
  | .voidAccess access _ => (Machine.AccessKind.ofCode access).isNone
  | .deviceReset | .fineTick | .putCommand _ | .takeEvent _ | .readStatus _ | .readLease _ | .readRoster _ | .portReset _
  | .badCommandRecord | .configure | .join | .leave | .acquire | .release | .renew | .cancel | .frameStart
  | .claimFrame | .dropFrame | .extendFrame | .withdrawFrame | .revokeFrame | .quitFrame | .departFrame | .foundFrame | .applyFrame
  | .admitFrame | .declineFrame | .snapshotFrame | .snapEndFrame | .beaconFrame | .replicaDeadline _ _ | .selfExpiry _
  | .presenceDeadline _ | .beaconSchedule | .listenWindow | .foundingPeriod | .joinAttemptTimer | .joinBackoff | .roundEnd
  | .lineIdle | .startBitRead => true

end Sys2Proof
end

