-- ==== Sys2Proof/Safety.lean ====
section
/-! DEFINITION. What a sound state is, block by block: the bounds that the rules say hold at all times; and small words that statements use. -/

namespace Sys2Proof.Machine

/-! ## Host Port (R168, R169, R174, R175, R179) -/

/-- At most 4 commands and 32 events; the dropped-event count is at most 255 and not 0 only while the Event Queue is full; ATTN_N is high
exactly while no event waits; a place held for a transaction is free (R168). -/
def HostPort.Sound (h : HostPort) : Prop :=
  h.commands.length ≤ 4 ∧ h.events.length ≤ 32 ∧ h.dropped ≤ 255 ∧ (h.dropped ≠ 0 → h.events.length = 32) ∧ h.attnN = h.events.isEmpty
    ∧ (h.transaction.map (fun t => t.place) = some true → h.commands.length < 4)

/-! ## Timebase (R60, R69, R71) -/

/-- The trim word, the phase residue, the length of a fine tick and the round's sample count stay in their ranges. -/
def Timebase.Sound (t : Timebase) : Prop :=
  -512 ≤ t.trim ∧ t.trim ≤ 511 ∧ -255 ≤ t.residue ∧ t.residue ≤ 255 ∧ 254 ≤ t.tickCycles ∧ t.tickCycles ≤ 258 ∧ t.count ≤ 255

/-! ## Transmit Queue (R129, R130, R131, R140, R142) -/

/-- At most one frame in flight; no group above its quota; one frame of an identity; an orphan is in flight and marked withdrawn; one pending
DECLINE for a joiner. -/
def TransmitQueue.Sound (q : TransmitQueue) : Prop :=
  (q.entries.filter (fun e => e.inFlight)).length ≤ 1
    ∧ (∀ g : TxGroup, (q.inGroup g).length ≤ g.quota)
    ∧ ((q.entries.filter (fun e => !e.orphan)).map (fun e => e.frame.id)).Nodup
    ∧ (∀ e ∈ q.entries, e.orphan = true → e.inFlight = true ∧ e.withdrawn = true)
    ∧ (q.pendingDeclines.map (fun d => d.joiner)).Nodup

/-! ## Line Controller (R148, R160, R161, R162) -/

/-- The veto counts stay within their thresholds, and a station that is not muted is below both. -/
def State.VetoSound (s : State) : Prop :=
  s.line.ownVetoes ≤ 16 ∧ s.line.issuedVetoes ≤ 32 ∧ (s.member.state ≠ .mute → s.line.ownVetoes < 16 ∧ s.line.issuedVetoes < 32)

/-! ## Replica (R2) -/

/-- State and holder list agree, and a station appears at most once among holders and waiters. -/
def ResourceEntry.Sound (e : ResourceEntry) : Prop :=
  (e.state = .free → e.holders = []) ∧ (e.state = .exclusive → e.holders.length = 1) ∧ (e.state = .shared → e.holders ≠ [])
    ∧ (e.holders.map (fun h => h.station) ++ e.waiters.map (fun w => w.station)).Nodup

/-- Every resource entry is sound. -/
def Replica.Sound (rep : Replica) : Prop := ∀ r : Fin 64, (rep.table[r]).Sound

/-- A resource entry being rebuilt from a snapshot: what the checks of R117 keep; `whole` asks for the holder that EXCLUSIVE and SHARED need. -/
def SnapEntry.Sound (e : SnapEntry) (whole : Bool) : Prop :=
  (e.state = .free → e.holders = []) ∧ (e.state = .exclusive → e.holders.length ≤ 1)
    ∧ (whole = true → e.state ≠ .free → e.holders ≠ [])
    ∧ (e.holders.map (fun h => h.station) ++ e.waiters.map (fun w => w.station)).Nodup

/-- The Snapshot Buffer of a joiner: every entry is sound, and whole but for the last one loaded. -/
def SnapshotBuffer.Sound : SnapshotBuffer → Prop
  | .rebuild b => ∀ r : Fin 64, (b.table[r]).Sound (b.last != some r)
  | .empty => True
  | .capture _ => True

/-- The table, and the one being rebuilt. -/
def State.TableSound (s : State) : Prop := s.replica.Sound ∧ s.member.snapshot.Sound

/-! ## Words for statements -/

/-- The command with which the Command Engine takes a record of a kind. -/
def CommandKind.taking : CommandKind → Instr
  | .configure => .configure
  | .join => .join
  | .leave => .leave
  | .acquire => .acquire
  | .release => .release
  | .renew => .renew
  | .cancel => .cancel

/-- The command that hands a frame of a kind inward. -/
def FrameKind.handing : FrameKind → Instr
  | .found => .foundFrame
  | .apply => .applyFrame
  | .quit => .quitFrame
  | .depart => .departFrame
  | .beacon => .beaconFrame
  | .admitJoiner => .admitFrame
  | .decline => .declineFrame
  | .snapshot => .snapshotFrame
  | .snapEnd => .snapEndFrame
  | .revoke => .revokeFrame
  | .claim => .claimFrame
  | .drop => .dropFrame
  | .extend => .extendFrame
  | .withdraw => .withdrawFrame

/-- A frame that a sender can send: a SNAPSHOT has at most four members, and any other kind any fields (R194). -/
def Frame.wellFormed : Frame → Bool
  | .snapshot _ p => p.members.length ≤ 4
  | .found _ _ | .apply _ _ | .quit | .depart _ | .beacon _ | .admitJoiner _ _ _ _ _ | .decline _ | .snapEnd _ _ | .revoke _ _ _
  | .claim _ _ _ _ | .drop _ _ | .extend _ _ _ | .withdraw _ => true

/-- The oldest frame of the delivery order, sent by another station, comes to a station that is ONLINE with a live replica in which no entry is
MARKED. -/
def State.HandedByPeer (s : State) (d : Delivered) (rest : List Delivered) : Prop :=
  s.line.delivery = d :: rest ∧ d.own = false ∧ s.member.state = .online ∧ s.replica.live = true ∧ s.replica.marked = []

/-- The oldest frame of the delivery order, sent by another station, comes to a founder or an ONLINE station whose replica is live, with no entry MARKED. -/
def State.HandedToMember (s : State) (d : Delivered) (rest : List Delivered) : Prop :=
  s.line.delivery = d :: rest ∧ d.own = false ∧ (s.member.state = .founding ∨ s.member.state = .online) ∧ s.replica.live = true ∧ s.replica.marked = []

end Sys2Proof.Machine
end

