-- ==== Sys2Proof/Certificates/Slice0/Obligations.lean ====
section
/-! DEFINITION. The statements for the provers. Where an equation gives the next state as an update of the old one, every part that is
not named keeps its value: that is the command's frame. -/

open Sys2Proof Sys2Proof.Machine

/-! ## The queue of commands, and every command at once -/

/-- A step takes the command at the front of the queue and runs it on the state with the queue's rest (the model's queue, log 2, log 8). -/
def Obligations.StepRunsTheFrontCommand : Prop :=
  ∀ (c : Instr) (rest : List Instr) (s : State), s.pending = c :: rest → step s = exec c { s with pending := rest }

/-- Every command answers a next state, in every state, and leaves the queue alone: the manual describes no behaviour in which the part stops.
The queue is the model's own (log 2, log 8), and so are the next state where the command's event cannot occur (log 1) and that DEVICE_RESET keeps the
queue (log 19). -/
def Obligations.EveryCommandAnswersANextState : Prop := ∀ (c : Instr) (s : State), ∃ t, exec c s = .next t ∧ t.pending = s.pending

/-! ## Reset and clock -/

/-- A device reset, from any state, leaves every value that R32, R34, R59, R75, R79, R96, R97, R107, R129, R144, R165 and R186 state for it; a transaction that the port had taken is
cut off without effect, and SDO clocks nothing more out of it (R167, R186). DEVICE_RESET is one edge of RST_N and the values are left by both, since the part holds them in between: the model's form
(log 19). That the queue of commands and the choices for events to come are kept is the model's too (log 7, log 8, log 19). Three values are the model's choice, since no rule names them: no bit of an end field to come,
no event on its way to the Host Port, and an empty Snapshot Buffer (log 22). -/
def Obligations.DeviceResetLeavesTheStatedValues : Prop :=
  ∀ s : State, ∃ t, exec .deviceReset s = .next t ∧ t.pending = s.pending ∧ t.config = none
    ∧ (t.host.commands = [] ∧ t.host.events = [] ∧ t.host.dropped = 0 ∧ t.host.attnN = true ∧ t.host.raised = [] ∧ t.host.later = s.host.later
      ∧ t.host.rstN = !s.host.rstN)
    ∧ (s.host.transaction = none → t.host.transaction = none)
    ∧ (∀ tr, s.host.transaction = some tr → t.host.transaction = some {
        standing := if tr.standing = .taken then .cutOff else tr.standing,
        portByte := 0, access := none, mosi := [], answer := [], place := false, record := false, sdo := [] })
    ∧ (t.line.phase = .silent ∧ t.line.recessiveRun = 0 ∧ t.line.endBits = 0 ∧ t.line.decode = none ∧ t.line.delivery = [] ∧ t.line.ownVetoes = 0
      ∧ t.line.issuedVetoes = 0 ∧ t.line.arbitrationLosses = 0 ∧ t.line.rate = none)
    ∧ (t.tx.entries = [] ∧ t.tx.pendingDeclines = [] ∧ t.tx.awaiting = [])
    ∧ (t.replica.live = false ∧ (∀ r : Fin 64, t.replica.table[r] = { state := .free, counter := 0, holders := [], waiters := [] })
      ∧ t.replica.poolFree = 128 ∧ (∀ p : Station, t.replica.counts[p] = 0) ∧ t.replica.seq = 0 ∧ t.replica.stale = 0)
    ∧ (∀ i : Fin 8, (t.claims[i]).state = .empty ∧ (t.claims[i]).command = none ∧ (t.claims[i]).grant = none ∧ (t.claims[i]).deadline = none
      ∧ (t.claims[i]).marker = none ∧ (t.claims[i]).answer = none)
    ∧ (t.member.state = .unconfigured ∧ t.member.incarnationCounter = 0 ∧ t.member.incarnation = none ∧ t.member.joinTag = none
      ∧ t.member.leaveTag = none ∧ t.member.failures = 0 ∧ t.member.own = none ∧ t.member.attempt = none ∧ t.member.abandoning = false
      ∧ t.member.listenWindow = none ∧ t.member.foundingPeriod = none ∧ t.member.joinTimer = none ∧ t.member.backoff = none
      ∧ t.member.rosterLive = false ∧ (∀ p : Station, t.member.roster[p] = RosterEntry.clear) ∧ t.member.beaconCounter = 0
      ∧ t.member.beaconDeadline = none ∧ t.member.beaconPending = false ∧ t.member.admission = none ∧ t.member.snapshot = .empty)
    ∧ (t.timebase.counter = 0 ∧ t.timebase.trim = 0 ∧ t.timebase.residue = 0 ∧ t.timebase.sum = 0 ∧ t.timebase.count = 0
      ∧ t.timebase.roundDeadline = none ∧ t.timebase.quiet = false ∧ t.timebase.state = .free)

/-- The state after a device reset meets every bound that the statements on invariants keep. -/
def Obligations.ResetStateIsSound : Prop :=
  State.reset.host.Sound ∧ State.reset.timebase.Sound ∧ State.reset.tx.Sound ∧ State.reset.VetoSound ∧ State.reset.TableSound

/-- R59: with RST_N high the fine-tick counter advances by one at the end of every fine tick, wrapping; it becomes 0 at a device reset, does not count while RST_N is low, and no other event changes it, in
any station state. -/
def Obligations.FineTickCounterCountsFineTicksOnly : Prop :=
  ∀ (c : Instr) (s t : State), exec c s = .next t →
    t.timebase.counter = (if c = .fineTick ∧ s.host.rstN = true then s.timebase.counter + 1 else if c = .deviceReset then 0 else s.timebase.counter)

/-- At the end of a fine tick the next one starts, its length 256 reference cycles adjusted by the trim word through the phase residue: each whole
256 of residue plus trim is one cycle more or less, what is left over is the new residue, of the same sign (R60). The counter and the incarnation
counter advance by one (R59, R97), and nothing else changes. While RST_N is low no fine tick is counted (R59). -/
def Obligations.FineTickLengthFollowsTheTrim : Prop :=
  ∀ s : State,
    (s.host.rstN = false → exec .fineTick s = .next s)
    ∧ (s.host.rstN = true → s.timebase.Sound → ∃ (cycles : Nat) (residue : Int),
      exec .fineTick s = .next { s with
          timebase := { s.timebase with counter := s.timebase.counter + 1, residue := residue, tickCycles := cycles }
          member := { s.member with incarnationCounter := s.member.incarnationCounter + 1 } }
        ∧ 256 * ((cycles : Int) - 256) + residue = s.timebase.residue + s.timebase.trim
        ∧ (0 ≤ s.timebase.residue + s.timebase.trim → 0 ≤ residue) ∧ (s.timebase.residue + s.timebase.trim ≤ 0 → residue ≤ 0)
        ∧ -255 ≤ residue ∧ residue ≤ 255 ∧ 254 ≤ cycles ∧ cycles ≤ 258)

/-- Whatever the command: the veto counts stay within their thresholds, and a station below MUTE is below both (R160, R161, R162); and the trim word, the phase residue, the length of a fine tick and the
sample count stay in the ranges of R60, R69 and R71. -/
def Obligations.CountersStayInTheirRanges : Prop :=
  (∀ (c : Instr) (s t : State), s.VetoSound → exec c s = .next t → t.VetoSound)
  ∧ ∀ (c : Instr) (s t : State), s.timebase.Sound → exec c s = .next t → t.timebase.Sound

/-! ## Host Port -/

/-- R168: at the end of a PUT_COMMAND's access byte the response byte is ACCEPT and one place is held if fewer than 4 records are queued, and FULL if 4 are; the port byte has been clocked out. The
bytes after it are clocked in as they are, while the response byte and then zeros are clocked out. When CS_N rises, a record answered ACCEPT goes to the tail exactly as it was clocked in;
one answered FULL is discarded, and one cut short has no effect and frees its place (R167). -/
def Obligations.PutCommandAcceptsOrDiscards : Prop :=
  ∀ (s : State) (t : Transaction), s.host.transaction = some t → t.standing = .taken →
    let held := s.host.commands.length < 4
    (t.access = none → exec (.putCommand (.byte 0x01)) s = .next { s with host := { s.host with transaction := some { t with
        access := some 0x01, sdo := t.sdo ++ [t.portByte], answer := [if held then 0xA5 else 0x5A], place := decide held } } })
    ∧ (t.access = some 0x01 → ∀ b : Byte, exec (.putCommand (.byte b)) s = .next { s with host := { s.host with transaction := some { t with
        mosi := t.mosi ++ [b], answer := t.answer.drop 1, sdo := t.sdo ++ [t.answer.head?.getD 0] } } })
    ∧ (t.access = some 0x01 → exec (.putCommand .csRises) s = .next { s with host := { s.host with
      transaction := none
      commands := s.host.commands ++ (match t.mosi with
        | b0 :: b1 :: b2 :: b3 :: b4 :: b5 :: b6 :: b7 :: _ =>
          if t.place = true then [{ kind := b0, tag := b1, p1 := b2, p2 := b3, p3 := b4, p4 := b5, p5 := b6, check := b7 }] else []
        | _ => []) } })

/-- R176: when a TAKE_EVENT removes a record while the dropped-event count is not 0, an OVERRUN event with tag 0 and the count in its count field is appended in the same event, and the count is set to 0. The
record was latched at the end of the access byte, or the NONE record of an empty queue (R177). It leaves with the last bit of the eighth byte, and ATTN_N is high exactly if no record is left (R179); every
other byte only clocks out what was latched, and CS_N rising removes nothing, early or late (R167). -/
def Obligations.TakeEventRemovesTheHeadAndReportsDrops : Prop :=
  ∀ (s : State) (t : Transaction), s.host.transaction = some t → t.standing = .taken →
    let after (b : Byte) : Transaction := { t with mosi := t.mosi ++ [b], answer := t.answer.drop 1, sdo := t.sdo ++ [t.answer.head?.getD 0] }
    (t.access = none → exec (.takeEvent (.byte 0x02)) s = .next { s with host := { s.host with transaction := some { t with
      access := some 0x02, sdo := t.sdo ++ [t.portByte], record := !s.host.events.isEmpty,
      answer := match s.host.events with | [] => [0, 0, 0, 0, 0, 0, 0, 0xFF] | e :: _ => e.bytes } } })
    ∧ (t.access = some 0x02 → ∀ (b : Byte) (e : EventRecord) (rest : List EventRecord), s.host.events = e :: rest →
      let left := if s.host.dropped = 0 then rest
        else rest ++ [{ kind := .overrun, tag := 0, subject := 0, grant := 0, detail := 0, count := BitVec.ofNat 8 s.host.dropped }]
      t.mosi.length = 7 → t.record = true → exec (.takeEvent (.byte b)) s = .next { s with host := { s.host with
        events := left, dropped := 0, attnN := left.isEmpty, transaction := some (after b) } })
    ∧ (t.access = some 0x02 → ∀ b : Byte, (t.mosi.length ≠ 7 ∨ t.record = false) →
      exec (.takeEvent (.byte b)) s = .next { s with host := { s.host with transaction := some (after b) } })
    ∧ (t.access = some 0x02 → exec (.takeEvent .csRises) s = .next { s with host := { s.host with transaction := none } })

/-- R191: at the end of its access byte a READ_STATUS takes the status block, 24 bytes in this layout, with the values of R181; while the access byte is clocked in the port byte goes out, which
CS_N's fall latched, so that byte 11 need not agree with it. Each byte clocked after it clocks out the next of these, and CS_N rising, early or late, leaves no trace (R167, R180). What an unconfigured
station shows as station number is 0, and its digest covers no resource: the model's readings (log 20, log 21). -/
def Obligations.StatusBlockHasItsLayout : Prop :=
  ∀ (s : State) (t : Transaction), s.host.transaction = some t → t.standing = .taken →
    let c := s.cfg
    let opened := if s.member.rosterLive then s.member.admission else none
    let trim := BitVec.ofInt 10 s.timebase.trim
    let inc := s.member.incarnation.getD 0
    let seq := if s.replica.live then s.replica.seq else 0
    let byte (n : Nat) : Byte := BitVec.ofNat 8 n
    let hi (w : Word16) : Byte := byte (w.toNat / 256)
    let lo (w : Word16) : Byte := byte (w.toNat % 256)
    (t.access = none → exec (.readStatus (.byte 0x03)) s = .next { s with host := { s.host with transaction := some { t with
      access := some 0x03, sdo := t.sdo ++ [t.portByte], answer :=
      [ byte (s.member.state.code * 16 + s.me.val),
        byte (s.timebase.state.code * 64 + (if opened.isSome then 32 else 0)
          + (if opened.map (fun a => a.admitter) = some s.me then 16 else 0) + s.onlinePeers),
        hi inc, lo inc,
        byte (c.rate.toNat * 64 + s.host.commands.length * 8 + c.misses.toNat),
        c.beaconPeriod,
        c.guard,
        byte (if s.config.isSome then c.lastResource.toNat + 1 else 0),
        c.groupKey,
        byte (s.line.ownVetoes * 8 + trim.toNat / 256), byte (trim.toNat % 256),
        byte s.host.events.length,
        byte s.tx.entries.length,
        byte s.host.dropped,
        hi seq, lo seq,
        hi s.digest, lo s.digest,
        byte (match opened with | some a => a.joiner.val * 16 + a.admitter.val | none => 0),
        byte s.line.issuedVetoes,
        hi s.line.arbitrationLosses, lo s.line.arbitrationLosses,
        hi s.replica.stale, lo s.replica.stale ] } } })
    ∧ (t.access = some 0x03 → ∀ b : Byte, exec (.readStatus (.byte b)) s = .next { s with host := { s.host with transaction := some { t with
        mosi := t.mosi ++ [b], answer := t.answer.drop 1, sdo := t.sdo ++ [t.answer.head?.getD 0] } } })
    ∧ (t.access = some 0x03 → exec (.readStatus .csRises) s = .next { s with host := { s.host with transaction := none } })

/-- R192: at the end of the byte that names the resource a READ_LEASE takes the 16 bytes of the lease view, and READ_ROSTER at the byte that names the station the 8 bytes of the roster view, in the layouts of R192 with the
values of R182 and R183; nothing but the transaction changes (R180). A resource number above 63 and a station number above 15 give the INVALID view. That no entry is shown as its own by an
unconfigured station is the model's reading (log 45), and so is that a reported state without a meaning leaves the other one shown (R195, log 52). -/
def Obligations.ViewsHaveTheirLayouts : Prop :=
  ∀ (s : State) (t : Transaction), s.host.transaction = some t → t.standing = .taken → t.mosi = [] →
    let byte (n : Nat) : Byte := BitVec.ofNat 8 n
    let hi (w : Word16) : Byte := byte (w.toNat / 256)
    let lo (w : Word16) : Byte := byte (w.toNat % 256)
    let answered (named : Byte) (view : List Byte) : Host.Outcome State Fault Refusal :=
      .next { s with host := { s.host with transaction := some { t with mosi := [named], answer := view, sdo := t.sdo ++ [t.answer.head?.getD 0] } } }
    (∀ named : Byte, t.access = some 0x04 →
      (64 ≤ named.toNat → exec (.readLease (.byte named)) s = answered named (named :: 0xFF :: List.replicate 14 0))
      ∧ ∀ r : Fin 64, named.toNat = r.val →
        let e := if s.replica.live then s.replica.table[r] else { state := .free, counter := 0, holders := [], waiters := [] }
        let weights (p : Station → Bool) : Word16 := BitVec.ofNat 16 (((List.finRange 16).map (fun n => if p n then 2 ^ n.val else 0)).sum)
        let holders := weights (fun p => e.holders.any (fun h => h.station == p))
        let waiters := weights (fun p => e.waiters.any (fun w => w.station == p))
        let own := e.holders.find? (fun h => h.station == s.me)
        let remaining : Word16 := match own with
          | none => 0
          | some h => if 0 ≤ (s.now - h.deadline).toInt then 0 else BitVec.ofNat 16 (min 65535 ((h.deadline - s.now).toNat / 64))
        let grant : Word16 := match own with | none => 0 | some h => h.grant
        exec (.readLease (.byte named)) s = answered named
          [ named, byte e.state.code, hi e.counter, lo e.counter, byte e.holders.length, byte e.waiters.length,
            hi holders, lo holders, hi waiters, lo waiters,
            (match e.waiters.head? with | none => 0 | some w => byte (128 + 16 * (match w.mode with | .exclusive => 1 | .shared => 2) + w.station.val)),
            (if own.isSome then 64
              else match e.waiters.findIdx? (fun w => w.station == s.me) with | none => 0 | some i => byte (128 + (i + 1))),
            hi grant, lo grant, hi remaining, lo remaining ])
    ∧ (∀ named : Byte, t.access = some 0x05 →
      (16 ≤ named.toNat → exec (.readRoster (.byte named)) s = answered named [named, 0xFF, 0, 0, 0, 0, 0, 0])
      ∧ ∀ p : Station, named.toNat = p.val →
        let e := s.member.roster[p]
        let flag (weight : Nat) (b : Bool) : Nat := if b then weight else 0
        let inc := e.incarnation.getD 0
        let own := s.config.isSome && p == s.me
        (s.member.rosterLive = true → exec (.readRoster (.byte named)) s = answered named
          [ named, byte e.state.code, byte (inc.toNat / 256), byte (inc.toNat % 256),
            (if e.beacon.isSome then byte ((e.reportedState.map (fun x => x.code)).getD 0 * 16 + (e.reportedTimebase.map (fun x => x.code)).getD 0) else 0),
            byte e.outliers,
            byte (flag 64 own + flag 32 e.divergence + flag 16 e.beacon.isSome + flag 8 e.departQueued + flag 4 e.lastHeard.isSome
              + flag 2 e.presence.isSome + flag 1 e.incarnation.isSome),
            (match e.lastHeard with | none => 0 | some heard => byte (min 255 ((s.now - heard).toNat / (64 * s.cfg.beaconPeriod.toNat)))) ])
        ∧ (s.member.rosterLive = false → exec (.readRoster (.byte named)) s = answered named
          [ named, 0, byte (inc.toNat / 256), byte (inc.toNat % 256), 0, 0, byte (flag 64 own + flag 1 e.incarnation.isSome), 0 ]))

/-- R166, R167, R186: when CS_N falls a transaction begins and its port byte is latched; while RST_N is low it is void. The rows that latch nothing at the access byte only clock the port byte out with it, a byte that names
no access kind among them (R190); after it, a void access, a PORT_RESET and a view already taken clock out what is latched, or 0x00. CS_N rising before the access byte is whole, or in a void access or a view, ends
the transaction without effect. One that the port has not taken, being void or cut off, ignores every byte until CS_N rises; a void one clocks out 0x00 once RST_N is high again, and one cut off nothing, the
model's reading (log 46). -/
def Obligations.TransactionsFollowTheirEdges : Prop :=
  ∀ (s : State) (a : Byte), a ≠ 0x01 → a ≠ 0x02 → a ≠ 0x03 → a ≠ 0x04 → a ≠ 0x05 → a ≠ 0x0F →
    let left (t : Option Transaction) : Host.Outcome State Fault Refusal := .next { s with host := { s.host with transaction := t } }
    let quiet := [(Instr.readLease, 0x04#8), (Instr.readRoster, 0x05#8), (Instr.portReset, 0x0F#8), (Instr.voidAccess a, a)]
    (∀ row ∈ [Instr.putCommand, .takeEvent, .readStatus, .readLease, .readRoster, .portReset, .voidAccess a],
      (s.host.transaction = none → exec (row .csFalls) s = left (some
        {
          standing := if s.host.rstN = true then .taken else .void,
          portByte := BitVec.ofNat 8 ((if 4 ≤ s.host.commands.length then 128 else 0) + s.host.events.length),
          access := none, mosi := [], answer := [], place := false, record := false, sdo := [] }))
      ∧ (∀ t, s.host.transaction = some t → t.standing = .taken → t.access = none → exec (row .csRises) s = left none)
      ∧ ∀ t, s.host.transaction = some t → t.standing ≠ .taken → exec (row .csRises) s = left none
        ∧ ∀ b : Byte, exec (row (.byte b)) s = left (some { t with sdo := t.sdo ++ if t.standing = .void ∧ s.host.rstN = true then [0] else [] }))
    ∧ (∀ p ∈ quiet, ∀ t, s.host.transaction = some t → t.standing = .taken →
      (t.access = none → exec (p.1 (.byte p.2)) s = left (some { t with access := some p.2, sdo := t.sdo ++ [t.portByte] }))
      ∧ (t.access = some p.2 → (t.mosi ≠ [] ∨ p.2 = 0x0F ∨ p.2 = a) → ∀ b : Byte, exec (p.1 (.byte b)) s = left (some { t with
        mosi := t.mosi ++ [b], answer := t.answer.drop 1, sdo := t.sdo ++ [t.answer.head?.getD 0] }))
      ∧ (t.access = some p.2 → p.2 ≠ 0x0F → exec (p.1 .csRises) s = left none))

/-- R184: a PORT_RESET takes effect when CS_N rises after its access byte: it empties both queues, sets the dropped-event count to 0 and appends one PORT_RESET event with the numbers of records discarded; everything
outside the Host Port is unchanged. ATTN_N is low after it (R179). An event raised before and not yet appended is still to come: the model's form (log 7). -/
def Obligations.PortResetEmptiesTheQueues : Prop :=
  ∀ (s : State) (t : Transaction), s.host.transaction = some t → t.standing = .taken → t.access = some 0x0F →
    exec (.portReset .csRises) s = .next { s with host :=
      { commands := []
        events := [{ kind := .portReset, tag := 0, subject := (match s.config with | some c => BitVec.ofNat 8 c.station.val | none => 0),
                     grant := BitVec.ofNat 16 s.host.events.length, detail := 0, count := BitVec.ofNat 8 s.host.commands.length }]
        dropped := 0
        attnN := false
        rstN := s.host.rstN
        transaction := none
        raised := s.host.raised
        later := s.host.later } }

/-- R179, R174, R175: whatever the command, and in a step with none, the Event Queue holds at most 32 records, the dropped-event count stays within 255 and is not 0 only while the queue is full, the Command
Queue holds at most 4 and has room for the place that a transaction holds (R168), and ATTN_N is asserted exactly while an event waits. -/
def Obligations.HostPortStaysSound : Prop :=
  (∀ (c : Instr) (s t : State), s.host.Sound → exec c s = .next t → t.host.Sound)
  ∧ ∀ s t : State, s.host.Sound → step s = .next t → t.host.Sound

/-- R174, R175, R197: an event that reaches the Host Port is appended at the tail, ATTN_N falling, or dropped and counted up to 255 where 32 records are queued. A block that raises one makes it reach the Host Port in that same event, behind every
event raised before it, or at a later one, after all of them; the model's own field says which (log 7). A taking's answer reaches it at once (R170), and so does an event of which a rule says that it is in the Event Queue in its own event (R56, R73, R92, R95). With no command waiting a step brings the oldest event still on its
way to the Host Port, and with none on its way leaves the state as it is (the model's, log 2). -/
def Obligations.RaisedEventsReachTheHostPort : Prop :=
  (∀ (h : HostPort) (e : EventRecord),
    (h.events.length < 32 → h.append e = { h with events := h.events ++ [e], attnN := false })
    ∧ (32 ≤ h.events.length → h.append e = { h with dropped := if h.dropped < 255 then h.dropped + 1 else 255 })
    ∧ (∀ rest, h.later = true :: rest → h.raise e = { h with raised := h.raised ++ [e], later := rest })
    ∧ (∀ rest, h.later = false :: rest → h.raise e = (h.raised ++ [e]).foldl HostPort.append { h with raised := [], later := rest })
    ∧ (h.later = [] → h.raise e = (h.raised ++ [e]).foldl HostPort.append { h with raised := [] })
    ∧ h.answer e = (h.raised ++ [e]).foldl HostPort.append { h with raised := [] })
  ∧ ∀ s : State, s.pending = [] →
    (s.host.raised = [] → step s = .next s)
    ∧ ∀ e rest, s.host.raised = e :: rest → step s = .next { s with host := ({ s.host with raised := rest } : HostPort).append e }

/-! ## Command Engine -/

/-- A taken record whose eight bytes do not sum to 0xFF modulo 256 is refused with CHECK and has no other effect; its REFUSED answer carries the second byte as tag and the first byte as kind, exactly as received. A record that passes but names none of
the seven kinds is refused with KIND in the same form (R171, R172, R188). A valid record is refused with STATE where the station state does not take its kind, and otherwise with RANGE where a field of it is out of
range: one event, in the form of R173, and nothing else (R98, R38, and the table after R173). -/
def Obligations.FailedChecksRefuseTheRecord : Prop :=
  (∀ (s : State) (r : CommandRecord) (rest : List CommandRecord), s.host.commands = r :: rest →
    let sum := r.kind + r.tag + r.p1 + r.p2 + r.p3 + r.p4 + r.p5 + r.check
    let taken : HostPort := { s.host with commands := rest }
    let refusal (reason : Byte) : EventRecord := { kind := .refused, tag := r.tag, subject := 0, grant := 0, detail := reason, count := r.kind }
    let refused (reason : Byte) : Host.Outcome State Fault Refusal := .next { s with host := taken.answer (refusal reason) }
    (sum ≠ 0xFF → exec .badCommandRecord s = refused 1)
    ∧ (sum = 0xFF → r.kind ∉ [0x01#8, 0x02#8, 0x03#8, 0x10#8, 0x11#8, 0x12#8, 0x13#8] → exec .badCommandRecord s = refused 2))
  ∧ ∀ (s : State) (k : CommandKind) (r : CommandRecord) (rest : List CommandRecord), s.host.commands = r :: rest → r.validKind = some k →
    let st := s.member.state
    let wrongState : Prop := match k with
      | .configure => st ≠ .unconfigured ∧ st ≠ .offline
      | .join => st ≠ .offline
      | .leave => st = .unconfigured ∨ st = .offline ∨ st = .leaving
      | .acquire | .release | .renew | .cancel => st ≠ .online
    let c := s.cfg
    let term := r.p3.toNat * 256 + r.p4.toNat
    let mode := r.p2.toNat % 4
    let outOfRange : Prop := r.tag = 0 ∨ (match k with
      | .configure => r.p1.toNat / 8 % 2 = 1 ∨ r.p1.toNat % 8 < 2 ∨ r.p3.toNat < 20 ∨ r.p4 = 0
      | .join | .leave => r.p1 ≠ 0 ∨ r.p2 ≠ 0 ∨ r.p3 ≠ 0 ∨ r.p4 ≠ 0 ∨ r.p5 ≠ 0
      | .acquire => c.lastResource.toNat + 1 ≤ r.p1.toNat ∨ r.p2.toNat / 4 % 32 ≠ 0 ∨ mode = 0 ∨ mode = 3 ∨ term = 0 ∨ term ≤ 4 * c.guard.toNat ∨ r.p5 ≠ 0
      | .renew => c.lastResource.toNat + 1 ≤ r.p1.toNat ∨ r.p2 ≠ 0 ∨ term = 0 ∨ term ≤ 4 * c.guard.toNat ∨ r.p5 ≠ 0
      | .release | .cancel => c.lastResource.toNat + 1 ≤ r.p1.toNat ∨ r.p2 ≠ 0 ∨ r.p3 ≠ 0 ∨ r.p4 ≠ 0 ∨ r.p5 ≠ 0)
    let subject : Byte := match k with
      | .configure => BitVec.ofNat 8 (r.p1.toNat / 16)
      | .join | .leave => 0
      | .acquire | .release | .renew | .cancel => r.p1
    let refusal (reason : Byte) : EventRecord := { kind := .refused, tag := r.tag, subject := subject, grant := 0, detail := reason, count := r.kind }
    let taken : HostPort := { s.host with commands := rest }
    (wrongState → exec k.taking s = .next { s with host := taken.answer (refusal 3) })
    ∧ (¬ wrongState → outOfRange → exec k.taking s = .next { s with host := taken.answer (refusal 4) })

/-- An ACQUIRE, RELEASE, RENEW or CANCEL that passes the first four checks is refused with the reason of R38's table, and nothing else changes: SLOTS with no EMPTY
slot, ALREADY with a slot for the resource, otherwise by the state of the resource's slot. -/
def Obligations.SlotChecksRefuseByTheTable : Prop :=
  ∀ (s : State) (k : CommandKind) (r : CommandRecord) (rest : List CommandRecord),
    s.host.commands = r :: rest → r.validKind = some k → s.member.state = .online → r.inRange s.cfg k = true →
    let found := s.findSlot r.p1
    let taken : HostPort := { s.host with commands := rest }
    let refusal (reason : Byte) : EventRecord := { kind := .refused, tag := r.tag, subject := r.p1, grant := 0, detail := reason, count := r.kind }
    let refused (reason : Byte) : Host.Outcome State Fault Refusal := .next { s with host := taken.answer (refusal reason) }
    (k = .acquire → (∀ i : Fin 8, (s.claims[i]).state ≠ .empty) → exec .acquire s = refused 5)
    ∧ (k = .acquire → (∃ i : Fin 8, (s.claims[i]).state = .empty) → found.isSome = true → exec .acquire s = refused 6)
    ∧ (found = none → (k = .release → exec .release s = refused 7) ∧ (k = .renew → exec .renew s = refused 7) ∧ (k = .cancel → exec .cancel s = refused 8))
    ∧ ∀ i : Fin 8, found = some i →
      let st := (s.claims[i]).state
      ((st = .sending ∨ st = .waiting) → (k = .release → exec .release s = refused 7) ∧ (k = .renew → exec .renew s = refused 7))
      ∧ ((st = .renewing ∨ st = .releasing ∨ st = .withdrawing ∨ st = .lapsed ∨ st = .ending) →
        (k = .release → exec .release s = refused 9) ∧ (k = .renew → exec .renew s = refused 9))
      ∧ ((st = .held ∨ st = .renewing ∨ st = .releasing ∨ st = .lapsed) → k = .cancel → exec .cancel s = refused 8)
      ∧ ((st = .withdrawing ∨ st = .ending ∨ (st = .sending ∧ (s.claims[i]).cancelPending = true)) → k = .cancel → exec .cancel s = refused 9)

/-- A CONFIGURE taken in UNCONFIGURED or OFFLINE with every field in range replaces the configuration record, makes the station OFFLINE, restarts the discipline round from
now and answers CONFIGURED with the station number and the profile digest (R98, R70, R99); the Line Controller takes the rate and seeks idle, or waits for
a frame of its own that is still on the line (R147).
A JOIN taken in OFFLINE draws the incarnation, records the tag, sets the counted failures to 0, enters LISTEN and sets the listen window deadline to now plus
(misses + 1) beacon periods; no answer is placed (R100). -/
def Obligations.ConfigureAndJoinPrepareTheStation : Prop :=
  (∀ (s : State) (r : CommandRecord) (rest : List CommandRecord),
    s.host.commands = r :: rest → r.validKind = some .configure → (s.member.state = .unconfigured ∨ s.member.state = .offline) →
    r.inRange s.cfg .configure = true →
    let c : ConfigRecord :=
      { station := ⟨r.p1.toNat / 16 % 16, Nat.mod_lt _ (by decide)⟩, misses := BitVec.ofNat 3 r.p1.toNat, rate := BitVec.ofNat 2 (r.p2.toNat / 64),
        lastResource := BitVec.ofNat 6 r.p2.toNat, beaconPeriod := r.p3, guard := r.p4, groupKey := r.p5,
        profile := crcBytes [BitVec.ofNat 8 (r.p2.toNat / 64), r.p3, BitVec.ofNat 8 (r.p1.toNat % 8), r.p4, BitVec.ofNat 8 (r.p2.toNat % 64 + 1), r.p5] }
    let taken : HostPort := { s.host with commands := rest }
    let configured : EventRecord := { kind := .configured, tag := r.tag, subject := BitVec.ofNat 8 c.station.val, grant := c.profile, detail := 0, count := 0 }
    exec .configure s = .next { s with
      config := some c
      member := { s.member with state := .offline }
      timebase := { s.timebase with sum := 0, count := 0, roundDeadline := some (s.timebase.counter + BitVec.ofNat 32 (512 * r.p3.toNat)) }
      line := if s.tx.entries.any (fun e => e.inFlight) then { s.line with rateChange := true }
        else { s.line with phase := .seekingIdle, recessiveRun := 0, endBits := 0, decode := none, rate := some c.rate, rateChange := false }
      host := taken.answer configured })
  ∧ ∀ (s : State) (r : CommandRecord) (rest : List CommandRecord),
    s.host.commands = r :: rest → r.validKind = some .join → s.member.state = .offline → r.inRange s.cfg .join = true →
    let c := s.cfg
    exec .join s = .next { s with
      host := { s.host with commands := rest }
      member := { s.member with
        incarnation := some (if s.member.incarnation = some s.member.incarnationCounter then s.member.incarnationCounter + 1 else s.member.incarnationCounter)
        joinTag := some r.tag
        failures := 0
        state := .listen
        listenWindow := some (s.timebase.counter + BitVec.ofNat 32 (64 * ((c.misses.toNat + 1) * c.beaconPeriod.toNat))) } }

/-- A LEAVE taken in ONLINE, FOUNDING, CATCHUP, or JOINING with an attempt whose APPLY has been accepted, makes the station LEAVING: the tag is recorded, the beacon schedule stops and its
BEACON is withdrawn, presence deadlines, timers and the attempt go, a joiner's loaded roster is discarded, and a QUIT is queued unless one already is, or recorded to follow an own frame that is still
out (R97, R124, R125). A founder keeps its abandoning mark, the model's reading (log 25). -/
def Obligations.LeaveOfAMemberQueuesQuit : Prop :=
  ∀ (s : State) (r : CommandRecord) (rest : List CommandRecord),
    s.host.commands = r :: rest → r.validKind = some .leave → r.inRange s.cfg .leave = true →
    (s.member.state = .online ∨ s.member.state = .founding ∨ s.member.state = .catchup ∨ (s.member.state = .joining ∧ s.member.attempt.isSome = true)) →
    let joiner := s.member.state = .joining ∨ s.member.state = .catchup
    let silent : TransmitQueue := (s.tx.withdraw .beacon).2
    let left (tx : TransmitQueue) (own : Option OwnFrame) : Host.Outcome State Fault Refusal := .next { s with
      host := { s.host with commands := rest }
      tx := tx
      member := { s.member with
        state := .leaving, leaveTag := some r.tag, own := own, departEvicts := true, beaconDeadline := none, beaconPending := false, attempt := none
        listenWindow := none, foundingPeriod := none, joinTimer := none, backoff := none
        roster := s.member.roster.map (fun e => if joiner then e.discard else { e with presence := none })
        rosterLive := if joiner then false else s.member.rosterLive
        admission := if joiner then none else s.member.admission
        snapshot := if joiner then .empty else s.member.snapshot } }
    (s.member.own = none → exec .leave s = left (silent.insert .quit).2 (some { kind := .quit, withdrawn := false, next := none }))
    ∧ (∀ o, s.member.own = some o →
      ((o.kind = .quit ∨ o.next = some .quit) → exec .leave s = left silent (some o))
      ∧ (o.kind ≠ .quit → o.next ≠ some .quit → exec .leave s = left silent (some { o with next := some .quit })))

/-- A LEAVE taken in LISTEN or JOINING with no accepted APPLY: with no own membership frame queued, or with one that is removed by the withdrawal, the station clear follows with LEFT;
with one on the line, the station becomes LEAVING and waits for its fate (R124, R126). In MUTE the station clear follows at once (R124). LEFT reaches the Event Queue in the taking itself (R170).
That NOT_FOUND is handled as a removal is the model's reading of R135, which R124 does not name (log 18). -/
def Obligations.LeaveBeforeMembershipOrInMute : Prop :=
  ∀ (s : State) (r : CommandRecord) (rest : List CommandRecord),
    s.host.commands = r :: rest → r.validKind = some .leave → r.inRange s.cfg .leave = true →
    let taken : State := { s with host := { s.host with commands := rest } }
    let left (t : State) : State := t.answering (fun t => t.stationClear
      { kind := .left, tag := r.tag, subject := stationByte s.me, grant := 0, detail := 0, count := s.busyCount })
    (s.member.state = .mute → exec .leave s = .next (left taken))
    ∧ ((s.member.state = .listen ∨ (s.member.state = .joining ∧ s.member.attempt = none)) →
      (s.member.own = none → exec .leave s = .next (left taken))
      ∧ ∀ o, s.member.own = some o →
        let asked := s.tx.withdraw o.kind.id
        (asked.1 ≠ .onLine → exec .leave s = .next (left { taken with tx := asked.2, member := { s.member with own := none } }))
        ∧ (asked.1 = .onLine → ∃ t, exec .leave s = .next t ∧ t.host = taken.host ∧ t.member.state = .leaving ∧ t.member.leaveTag = some r.tag
          ∧ t.member.own = some { kind := o.kind, withdrawn := true, next := none } ∧ t.member.departEvicts = false ∧ t.tx = (asked.2.withdraw .beacon).2
          ∧ t.replica = s.replica ∧ t.claims = s.claims ∧ t.timebase = s.timebase ∧ t.line = s.line ∧ t.config = s.config))

/-- R128, R33, R58, R78, R96, R142: what a station clear leaves. The event that accompanies it is placed first and TIMEBASE follows where the state was LOCKED, in the Event
Queue in the same event (R73). -/
def Obligations.StationClearEmptiesTheGroupState : Prop :=
  ∀ (s : State) (ev : EventRecord),
    let t := s.stationClear ev
    let told := s.host.raise ev
    t.host = (if s.timebase.state = .locked then told.answer
        { kind := .timebase, tag := 0, subject := stationByte s.me, grant := BitVec.ofInt 16 s.timebase.trim, detail := 0, count := 0 } else told)
    ∧ t.replica = { live := false, table := Vector.replicate 64 { state := .free, counter := 0, holders := [], waiters := [] }, poolFree := 128,
                    counts := Vector.replicate 16 0, seq := 0, stale := 0 }
    ∧ (∀ i : Fin 8, t.claims[i] = Slot.clear)
    ∧ t.tx.pendingDeclines = [] ∧ t.tx.awaiting = []
    ∧ t.tx.entries = (s.tx.entries.filter (fun e => e.inFlight)).map (fun e => { e with withdrawn := true, orphan := true, returnNotice := false })
    ∧ t.line = { s.line with ownVetoes := 0, issuedVetoes := 0 }
    ∧ t.timebase = { s.timebase with state := .free, quiet := false, sum := 0, count := 0, roundDeadline := some (s.now + s.roundSpan) }
    ∧ t.config = s.config ∧ t.pending = s.pending
    ∧ t.member = { s.member with
        state := .offline, joinTag := none, leaveTag := none, failures := 0, own := none, orphanNote := t.member.orphanNote, attempt := none
        abandoning := false, listenWindow := none, foundingPeriod := none, joinTimer := none, backoff := none, departEvicts := false
        rosterLive := false, roster := s.member.roster.map (fun e => { RosterEntry.clear with incarnation := e.incarnation })
        beaconDeadline := none, beaconPending := false, admission := none, snapshot := .empty }

/-- An ACQUIRE that passes every check fills an EMPTY slot with resource, term and tag, queues its CLAIM behind every other entry and leaves the slot SENDING; no answer is
placed (R39). The lowest EMPTY slot is the model's choice (log 9): which one is used cannot be seen from outside.
A RENEW taken on a HELD slot queues EXTEND with the slot's grant number and the new term and makes the slot RENEWING; a RELEASE taken on a HELD slot queues DROP with its
grant number and makes it RELEASING; term, grant number and self-expiry deadline stay (R45, R49).
A CANCEL on a WAITING slot queues WITHDRAW and makes it WITHDRAWING. On a SENDING slot it withdraws the CLAIM: removed, the slot becomes EMPTY with CANCELLED, then CANCEL_DONE
BEFORE_LINE; on the line, the slot stays SENDING with the CANCEL pending and the CLAIM marked withdrawn (R51). -/
def Obligations.LeaseCommandsQueueTheirFrames : Prop :=
  ∀ (s : State) (r : CommandRecord) (rest : List CommandRecord), s.host.commands = r :: rest → s.member.state = .online →
    let host := { s.host with commands := rest }
    let term : Word16 := r.p3 ++ r.p4
    let marked (k : LeaseKind) : Option FrameMarker := some { kind := k, withdrawn := false, dropFollows := false }
    let event (k : EventKind) (tag detail : Byte) : EventRecord := { kind := k, tag := tag, subject := r.p1, grant := 0, detail := detail, count := 0 }
    (r.validKind = some .acquire → r.inRange s.cfg .acquire = true → ∀ i : Fin 8, s.emptySlot = some i → s.findSlot r.p1 = none →
      exec .acquire s = .next { s with
        host := host
        claims := s.claims.set i { state := .sending, resource := r.p1, term := term, tag := r.tag, command := none, grant := none, deadline := none,
                                   marker := marked .claim, answer := none }
        tx := (s.tx.insert (.claim r.p1 r.p2.msb (BitVec.ofNat 2 r.p2.toNat) term)).2 })
    ∧ ∀ i : Fin 8, s.findSlot r.p1 = some i →
      let sl := s.claims[i]
      let asked := s.tx.withdraw (.claim r.p1)
      (∀ g, sl.state = .held → sl.grant = some g →
        (r.validKind = some .renew → r.inRange s.cfg .renew = true → exec .renew s = .next { s with
          host := host
          claims := s.claims.set i { sl with state := .renewing, command := some (.renew, r.tag), marker := marked .extend }
          tx := (s.tx.insert (.extend r.p1 g term)).2 })
        ∧ (r.validKind = some .release → r.inRange s.cfg .release = true → exec .release s = .next { s with
          host := host
          claims := s.claims.set i { sl with state := .releasing, command := some (.release, r.tag), marker := marked .drop }
          tx := (s.tx.insert (.drop r.p1 g)).2 }))
      ∧ (r.validKind = some .cancel → r.inRange s.cfg .cancel = true →
        (sl.state = .waiting → exec .cancel s = .next { s with
          host := host
          claims := s.claims.set i { sl with state := .withdrawing, command := some (.cancel, r.tag), marker := marked .withdraw }
          tx := (s.tx.insert (.withdraw r.p1)).2 })
        ∧ (sl.state = .sending → sl.command = none → sl.marker = marked .claim →
          (asked.1 = .removed → exec .cancel s = .next { s with
            host := (host.answer (event .cancelled sl.tag 0)).answer (event .cancelDone r.tag 1)
            claims := s.claims.set i Slot.clear
            tx := asked.2 })
          ∧ (asked.1 = .onLine → exec .cancel s = .next { s with
            host := host
            claims := s.claims.set i { sl with command := some (.cancel, r.tag), marker := some { kind := .claim, withdrawn := true, dropFollows := false } }
            tx := asked.2 })))

/-! ## Transmit Queue and group line -/

/-- Whatever the command, the Transmit Queue keeps the bounds of R131: at most one frame is in flight, no group is above its quota, an orphan stands outside the groups and is in flight itself; no two entries share an identity, orphans
left out (the model's reading, log 23), and the pending set has one place for a joiner (R129, R140). A queue within these bounds has at most 32 entries, the orphan included (R142, R145). -/
def Obligations.TransmitQueueStaysSound : Prop :=
  (∀ (c : Instr) (s t : State), s.tx.Sound → exec c s = .next t → t.tx.Sound) ∧ ∀ q : TransmitQueue, q.Sound → q.entries.length ≤ 32

/-- R130: an insertion is answered QUEUED_OK, the frame behind every entry, where its group is below its quota and no entry has its identity, and NO_ROOM with no change otherwise. R135, R140: a withdrawal removes a queued entry,
and where the DECLINE place is then free the oldest pending DECLINE takes it; on the line the entry is marked withdrawn and loses its return notice (R137); a frame that awaits delivery is on the line too, and any other is
not found. R137: a refresh gives a queued BEACON its new number and digest in its place, and one on the line a return notice, unless it is marked withdrawn. R140: a DECLINE handed over replaces the queued one of the same
joiner in its place, else takes the free DECLINE place, else joins the pending set, where it replaces one of the same joiner. Orphans are no entries here (the model's reading, log 23). -/
def Obligations.TransmitQueueAnswersItsRequests : Prop :=
  ∀ q : TransmitQueue,
    let fresh (f : Frame) : TxEntry := { frame := f, inFlight := false, withdrawn := false, returnNotice := false, orphan := false }
    let none_ (id : FrameId) (es : List TxEntry) : Prop := ∀ y ∈ es, y.orphan = false → y.frame.id ≠ id
    let placeFree (es : List TxEntry) : Prop := ∀ y ∈ es, y.orphan = false → y.frame.kind ≠ .decline
    let pended (d : DeclineBody) : TransmitQueue := { q with
      pendingDeclines := if q.pendingDeclines.any (fun p => p.joiner == d.joiner) then q.pendingDeclines.map (fun p => if p.joiner = d.joiner then d else p)
      else q.pendingDeclines ++ [d] }
    (∀ f : Frame,
      let room := (q.entries.filter (fun e => !e.orphan && e.frame.kind.group == f.kind.group)).length < f.kind.group.quota ∧ none_ f.id q.entries
      (room → q.insert f = (true, { q with entries := q.entries ++ [fresh f] })) ∧ (¬ room → q.insert f = (false, q)))
    ∧ (∀ (id : FrameId) (before after : List TxEntry) (x : TxEntry),
      q.entries = before ++ x :: after → x.orphan = false → x.frame.id = id → none_ id (before ++ after) →
      (x.inFlight = true → q.withdraw id = (.onLine, { q with entries := before ++ { x with withdrawn := true, returnNotice := false } :: after }))
      ∧ (x.inFlight = false → ¬ placeFree (before ++ after) → q.withdraw id = (.removed, { q with entries := before ++ after }))
      ∧ (x.inFlight = false → q.pendingDeclines = [] → q.withdraw id = (.removed, { q with entries := before ++ after }))
      ∧ (∀ d ds, x.inFlight = false → placeFree (before ++ after) → q.pendingDeclines = d :: ds →
        q.withdraw id = (.removed, { q with entries := before ++ after ++ [fresh (.decline d)], pendingDeclines := ds }))
      ∧ (∀ b number digest, x.frame = .beacon b →
        (x.inFlight = false → q.refresh number digest = (.refreshed,
          { q with entries := before ++ { x with frame := .beacon { b with number := number, digest := digest } } :: after }))
        ∧ (x.inFlight = true → q.refresh number digest = (.onLine, { q with entries := before ++ { x with returnNotice := !x.withdrawn } :: after })))
      ∧ (∀ d, x.frame.id = .decline d.joiner →
        (x.inFlight = false → q.handDecline d = { q with entries := before ++ { x with frame := .decline d } :: after })
        ∧ (x.inFlight = true → q.handDecline d = pended d)))
    ∧ (∀ id, none_ id q.entries → q.withdraw id = (if id ∈ q.awaiting then .onLine else .notFound, q))
    ∧ (∀ number digest, none_ .beacon q.entries → q.refresh number digest = (.notFound, q))
    ∧ ∀ d : DeclineBody, none_ (.decline d.joiner) q.entries →
      (placeFree q.entries → q.handDecline d = { q with entries := q.entries ++ [fresh (.decline d)] })
      ∧ (¬ placeFree q.entries → q.handDecline d = pended d)

/-- At an idle report in a state that offers frames, with none in flight, the frame started is the entry queued earliest among those of the lowest class present; it becomes the frame in
flight and the line a frame that this station sends, its stamp latched (R132, R133, R151, R64). A BEACON goes out with the stamp, states and digest
of that moment (R65, R30, R84). That digest reflects every frame accepted before the BEACON (R30): where some still wait in the delivery order it is the digest after each of them has been handed inward, oldest first,
until none waits, which is the model's reading of R30 (log 55). Where there is no idle report, a frame is in flight, none is queued, or the station is in UNCONFIGURED, OFFLINE or MUTE, no frame is offered: the command changes
nothing (R132, R133), the model's form where its event cannot occur, on a line that is not idle among others (log 1). That the start bit is read as it is driven is the model's too (log 44). -/
def Obligations.FrameStartSendsTheOldestOfTheLowestClass : Prop :=
  (∀ (s : State) (before after : List TxEntry) (e : TxEntry),
    s.line.phase = .idle → s.tx.Sound → s.tx.entries = before ++ e :: after →
    (∀ x ∈ before ++ e :: after, x.inFlight = false) → (∀ x ∈ before, e.frame.kind.cls < x.frame.kind.cls) → (∀ x ∈ after, e.frame.kind.cls ≤ x.frame.kind.cls) →
    (s.member.state = .listen ∨ s.member.state = .founding ∨ s.member.state = .joining ∨ s.member.state = .catchup ∨ s.member.state = .online
      ∨ s.member.state = .leaving) →
    let applied : State := s.line.delivery.foldl (fun t d => match exec d.frame.kind.handing t with | .next u => u | _ => t) s
    let sent : Frame := match e.frame with
      | .beacon b => .beacon { number := b.number, stamp := s.now, stationState := BitVec.ofNat 4 s.member.state.code,
                               timebaseState := BitVec.ofNat 2 s.timebase.state.code, digest := applied.digest, profile := b.profile }
      | f => f
    applied.line.delivery = [] ∧ exec .frameStart s = .next { s with
      tx := { s.tx with entries := before ++ { e with frame := sent, inFlight := true } :: after }
      line := { s.line with
        phase := .inFrame
        recessiveRun := 0
        endBits := 0
        decode := some { role := .sender ((encodeBody s.me sent).drop 1), stamp := s.now, rx := Rx.afterStart } } })
  ∧ ∀ s : State,
    (s.line.phase ≠ .idle ∨ s.tx.entries.any (fun e => e.inFlight) = true ∨ s.member.state = .unconfigured ∨ s.member.state = .offline
      ∨ s.member.state = .mute ∨ s.tx.entries = []) →
    exec .frameStart s = .next s

/-- A sender that drives a recessive bit of the key as sent and reads it dominant loses arbitration; an inserted bit among the key bits is such a bit (R149, R152). It decodes on as a receiver, having read the bits before it and this
one dominant, which at an inserted bit is an inserted-bit violation (R154); a bit before it that was sent dominant and read recessive is a readback fault, which stays recorded in what it decodes (R153, R154). Its stamp stays; the
arbitration-loss count advances, saturating (R152, R164). Its frame stays queued at its place unless it was marked withdrawn or an orphan (R134). -/
def Obligations.LostArbitrationLeavesTheSenderReceiving : Prop :=
  ∀ (s : State) (f : Frame) (stamp : Tick) (levels : List Level) (before after : List TxEntry) (e : TxEntry),
    s.line.decode = some { role := .sender ((encodeBody s.me f).drop 1), stamp := stamp, rx := Rx.afterStart } → s.line.rateChange = false →
    s.tx.entries = before ++ e :: after → (∀ x ∈ before ++ after, x.inFlight = false) → e.inFlight = true → e.frame = f →
    e.withdrawn = false → e.orphan = false → e.returnNotice = false →
    let key := natBits 2 f.kind.cls ++ natBits 4 s.me.val
    let sent := (insertBits true 0 (false :: key)).drop 1
    let k := levels.length
    sent[k]? = some true → (∀ i : Nat, sent[i]? = some true → levels[i]? ≠ some false) →
    let heard := levels.foldl Rx.feed Rx.afterStart
    let rx := (if levels = sent.take k then heard else { heard with fault := some (heard.fault.getD .readback) }).feed false
    (levels ≠ sent.take k → rx.fault ≠ none)
      ∧ (levels = sent.take k → key.take 5 ≠ List.replicate 5 false → rx.bits.reverse = false :: key.take k ++ [false] ∧ rx.fault = none)
      ∧ (levels = sent.take k → key.take 5 = List.replicate 5 false →
        (k = 5 → rx.fault = some .insertedBit) ∧ (k = 6 → rx.bits.reverse = false :: key.take 5 ++ [false] ∧ rx.fault = none))
      ∧ exec (.arbitrationLoss levels) s = .next { s with
        line := { s.line with
          recessiveRun := 0
          decode := some { role := .receiver, stamp := stamp, rx := rx }
          arbitrationLosses := if s.line.arbitrationLosses = 65535 then 65535 else s.line.arbitrationLosses + 1 }
        tx := { s.tx with entries := before ++ { e with inFlight := false } :: after } }

/-- Decode and encode of the group line agree: a receiver that reads, after a start bit, exactly the levels of a frame's body takes in that frame, from that sender, with every field, and
with the stamp of the start bit; the frame joins the delivery order at its end (R149, R150, R155, R158, R193, R194). The line is in the end field, eight bits of which are to come, the body's trailing recessive bits and the window counted
(R148, R156). The issued-veto count returns to 0, except in MUTE, which keeps its counts (R161, R162; log 14). -/
def Obligations.AcceptedFrameIsTheFrameSent : Prop :=
  ∀ (s : State) (sender : Station) (f : Frame) (stamp : Tick), f.wellFormed = true →
    s.line.decode = some { role := .receiver, stamp := stamp, rx := Rx.afterStart } →
    let levels := (encodeBody sender f).drop 1
    exec (.frameAccepted levels) s = .next { s with line := { s.line with
      phase := .inFrame
      decode := none
      recessiveRun := (levels ++ [true, true]).foldl (fun n b => if b then min 11 (n + 1) else 0) s.line.recessiveRun
      endBits := 8
      vetoDriven := false
      delivery := s.line.delivery ++ [{ sender := sender, frame := f, stamp := stamp, own := false }]
      issuedVetoes := if s.member.state = .mute then s.line.issuedVetoes else 0 } }

/-- This station's own frame, read back as sent to a recessive window, is accepted: it leaves the Transmit Queue, its identity awaits delivery, and it joins the delivery order as sent by this
station; both veto counts return to 0 (R134, R155, R158, R160, R161), and the line is in the end field (R156). -/
def Obligations.OwnAcceptedFrameAwaitsDelivery : Prop :=
  ∀ (s : State) (f : Frame) (stamp : Tick) (before after : List TxEntry) (e : TxEntry), f.wellFormed = true →
    s.line.decode = some { role := .sender ((encodeBody s.me f).drop 1), stamp := stamp, rx := Rx.afterStart } →
    s.tx.entries = before ++ e :: after → (∀ x ∈ before ++ after, x.inFlight = false) → e.inFlight = true → e.frame = f → e.orphan = false →
    s.tx.pendingDeclines = [] → s.replica.marked = [] → s.line.rateChange = false → s.member.state ≠ .mute →
    let levels := (encodeBody s.me f).drop 1
    exec (.frameAccepted levels) s = .next { s with
      line := { s.line with
        phase := .inFrame
        decode := none
        recessiveRun := (levels ++ [true, true]).foldl (fun n b => if b then min 11 (n + 1) else 0) s.line.recessiveRun
        endBits := 8
        vetoDriven := false
        delivery := s.line.delivery ++ [{ sender := s.me, frame := f, stamp := stamp, own := true }]
        ownVetoes := 0
        issuedVetoes := 0 }
      tx := { s.tx with entries := before ++ after, awaiting := s.tx.awaiting ++ [f.id] } }

/-- A frame of this station that is vetoed, not marked, not an orphan, stays in the queue at its place and the own-frame veto count advances (R134, R160); the window was driven
dominant by this station only if it had read a level of its own wrongly (R154). A BEACON with a return notice is RETURNED: it is refreshed at once with the counter value now and the digest, in its place, its notice and the pending
firing cleared (R83, R137). The count's 16th advance mutes the station besides, as the statement on muting gives it. A sender that read a recessive bit of its key dominant lost arbitration there (R152), so that no frame of its own is
vetoed and nothing changes (the model's form of an event that cannot occur, log 1).
A frame of another station whose decode ends at its window is discarded when the window is dominant; this station drove that veto exactly if it found a fault and its state vetoes, and then its
issued-veto count advances (R154, R155, R161), the 32nd advance muting it likewise. The line is in the end field, the levels read counted (R148, R156). -/
def Obligations.VetoedFrameIsKeptOrDiscarded : Prop :=
  ∀ (s : State) (levels : List Level) (w1 w2 : Level), ¬ (w1 = true ∧ w2 = true) →
    let ended (drove : Bool) (own issued : Nat) : LineController := { s.line with
      phase := .inFrame
      decode := none
      recessiveRun := (levels ++ [w1, w2]).foldl (fun n b => if b then min 11 (n + 1) else 0) s.line.recessiveRun
      endBits := 8
      vetoDriven := drove
      ownVetoes := own
      issuedVetoes := issued }
    (∀ (toSend : List Level) (stamp : Tick) (rx : Rx) (before after : List TxEntry) (e : TxEntry),
      s.line.decode = some { role := .sender toSend, stamp := stamp, rx := rx } → levels.length = toSend.length →
      s.tx.entries = before ++ e :: after → (∀ x ∈ before ++ after, x.inFlight = false) → e.inFlight = true →
      e.withdrawn = false → e.orphan = false → s.line.rateChange = false → s.member.state.offers = true → s.line.ownVetoes < 15 →
      (∀ k : Nat, toSend[k]? = some true → levels[k]? = some false → 7 ≤ ((toSend.take k).foldl Rx.feed rx).bits.length) →
      let line := ended (levels != toSend) (s.line.ownVetoes + 1) s.line.issuedVetoes
      (e.returnNotice = false → exec (.frameVetoed ⟨levels, w1, w2⟩) s = .next { s with
        line := line
        tx := { s.tx with entries := before ++ { e with inFlight := false } :: after } })
      ∧ (∀ b : BeaconBody, e.returnNotice = true → e.frame = .beacon b → (∀ x ∈ before ++ after, x.orphan = false → x.frame.id ≠ .beacon) →
        exec (.frameVetoed ⟨levels, w1, w2⟩) s = .next { s with
          line := line
          tx := { s.tx with entries := before
            ++ { e with inFlight := false, returnNotice := false, frame := .beacon { b with number := s.member.beaconCounter, digest := s.digest } } :: after }
          member := { s.member with beaconPending := false } }))
    ∧ (∀ (toSend : List Level) (stamp : Tick) (rx : Rx) (k : Nat),
      s.line.decode = some { role := .sender toSend, stamp := stamp, rx := rx } → k < 7 → toSend[k]? = some true → levels[k]? = some false →
      ((toSend.take k).foldl Rx.feed rx).bits.length < 7 → exec (.frameVetoed ⟨levels, w1, w2⟩) s = .next s)
    ∧ ∀ (d : FrameDecode) (rx : Rx),
      s.line.decode = some d → d.role = .receiver → d.rx.feedAll levels = some rx → rx.bodyDone = true → rx.lost = false → s.line.issuedVetoes < 31 →
      let drove := rx.fault.isSome && s.member.state.offers
      exec (.frameVetoed ⟨levels, w1, w2⟩) s = .next { s with
        line := ended drove s.line.ownVetoes (if drove = true then s.line.issuedVetoes + 1 else s.line.issuedVetoes) }

/-- R160, R161, R162, R127: the advance that brings the own-frame veto count to 16, at a veto of this station's frame, or the issued-veto count to 32, at a veto of its own to another station's frame or a frame it missed, mutes the station in ONLINE, FOUNDING,
LISTEN, JOINING, CATCHUP and LEAVING. MUTED is placed first, with detail OWN_VETOES or ISSUED_VETOES, the threshold as count and the line sequence number of a live replica. In LEAVING the leave then ends with LEFT and a station clear.
Elsewhere the station becomes MUTE: the beacon schedule stops and its BEACON is withdrawn, presence deadlines, timers, the attempt and the abandoning mark go; from ONLINE and FOUNDING the roster, the admission and the
Snapshot Buffer stay, from the others they are discarded. Replica, claim slots and the rest of the queue stay. The own frame's sender read no recessive bit of its key dominant, which would have lost it arbitration (R152). That a DEPART evicts
in MUTE entered from JOINING where the own APPLY has been applied is the model's reading of R93 (log 49). -/
def Obligations.VetoThresholdsMute : Prop :=
  ∀ (s : State) (levels : List Level),
    let run (ls : List Level) : Nat := ls.foldl (fun n b => if b then min 11 (n + 1) else 0) s.line.recessiveRun
    let told (detail : Byte) (count : Nat) : HostPort := s.host.raise { kind := .muted, tag := 0, subject := stationByte s.me
                                                                        grant := if s.replica.live then s.replica.seq else 0, detail := detail, count := BitVec.ofNat 8 count }
    let muted (line : LineController) (tx : TransmitQueue) (detail : Byte) (count : Nat) : Host.Outcome State Fault Refusal :=
      let at_ : State := { s with line := line, tx := tx, host := told detail count }
      if s.member.state = .leaving then .next (at_.stationClear
        { kind := .left, tag := s.member.leaveTag.getD 0, subject := stationByte s.me, grant := 0, detail := 0, count := s.busyCount })
      else
        let stays := s.member.state = .online ∨ s.member.state = .founding
        .next { at_ with
          tx := (tx.withdraw .beacon).2
          member := { s.member with
            state := .mute, attempt := none, abandoning := false, listenWindow := none, foundingPeriod := none, joinTimer := none
            backoff := none, beaconDeadline := none, beaconPending := false
            departEvicts := (s.member.state = .online ∨ s.member.state = .founding ∨ s.member.state = .catchup
              ∨ (s.member.state = .joining ∧ s.member.attempt.isSome = true) : Bool)
            roster := s.member.roster.map (fun x => if stays then { x with presence := none } else { RosterEntry.clear with incarnation := x.incarnation })
            rosterLive := if stays then s.member.rosterLive else false
            admission := if stays then s.member.admission else none
            snapshot := if stays then s.member.snapshot else .empty } }
    s.member.state.offers = true → s.line.rateChange = false →
    (∀ (toSend : List Level) (stamp : Tick) (rx : Rx) (before after : List TxEntry) (e : TxEntry) (w1 w2 : Level), ¬ (w1 = true ∧ w2 = true) →
      s.line.decode = some { role := .sender toSend, stamp := stamp, rx := rx } → levels.length = toSend.length →
      s.tx.entries = before ++ e :: after → (∀ x ∈ before ++ after, x.inFlight = false) → e.inFlight = true →
      e.withdrawn = false → e.orphan = false → e.returnNotice = false → s.line.ownVetoes = 15 →
      (∀ k : Nat, toSend[k]? = some true → levels[k]? = some false → 7 ≤ ((toSend.take k).foldl Rx.feed rx).bits.length) →
      exec (.frameVetoed ⟨levels, w1, w2⟩) s = muted
        { s.line with
          phase := .inFrame, decode := none, recessiveRun := run (levels ++ [w1, w2]), endBits := 8, ownVetoes := 16, vetoDriven := levels != toSend }
        { s.tx with entries := before ++ { e with inFlight := false } :: after } 1 16)
    ∧ ∀ (d : FrameDecode) (rx : Rx),
      s.line.decode = some d → d.role = .receiver → d.rx.feedAll levels = some rx → s.line.issuedVetoes = 31 →
      (∀ w1 w2 : Level, ¬ (w1 = true ∧ w2 = true) → rx.bodyDone = true → rx.lost = false → rx.fault.isSome = true →
        exec (.frameVetoed ⟨levels, w1, w2⟩) s = muted
          { s.line with
            phase := .inFrame, decode := none, recessiveRun := run (levels ++ [w1, w2]), endBits := 8, issuedVetoes := 32, vetoDriven := true }
          s.tx 2 32)
      ∧ (7 ≤ rx.recessive → exec (.missedFrame levels) s = muted
          { s.line with phase := .seekingIdle, decode := none, recessiveRun := run levels, issuedVetoes := 32, vetoDriven := false } s.tx 2 32)

/-- A receiver that reads seven recessive bits in a row inside the body ends its decode without a veto, delivers nothing, seeks idle with its recessive run as read, and counts the frame in
its issued-veto count where its state may veto (R157, R161, R148). The count's 32nd advance mutes it besides, as the statement on muting gives it. In a state that drives no veto, a frame found faulty is missed
where the window closes recessive, and the line is in the end field (R157, R163). -/
def Obligations.MissedFramesDeliverNothing : Prop :=
  ∀ (s : State) (levels : List Level) (d : FrameDecode) (rx : Rx),
    s.line.decode = some d → d.role = .receiver → d.rx.feedAll levels = some rx →
    let run (ls : List Level) : Nat := ls.foldl (fun n b => if b then min 11 (n + 1) else 0) s.line.recessiveRun
    (7 ≤ rx.recessive → s.line.issuedVetoes < 31 → exec (.missedFrame levels) s = .next { s with line := { s.line with
      phase := .seekingIdle, decode := none, recessiveRun := run levels, vetoDriven := false
      issuedVetoes := if s.member.state.offers then s.line.issuedVetoes + 1 else s.line.issuedVetoes } })
    ∧ (rx.lost = false → rx.bodyDone = true → rx.fault.isSome = true → s.member.state.offers = false →
      exec (.missedFrame levels) s = .next { s with line := { s.line with
        phase := .inFrame, decode := none, recessiveRun := run (levels ++ [true, true]), endBits := 8, vetoDriven := false } })

/-- With no frame being decoded every bit read is counted: a recessive one advances the recessive run, up to 11, and a dominant one sets it to 0 (R148). In SEEKING_IDLE the line is idle once the run is 11. The end field takes eight bits,
whatever they read; with the last of them the line is IDLE if the run is 11 and SEEKING_IDLE otherwise (R156). On the idle line a dominant bit of another station is a start bit that makes this station a receiver with its stamp
latched (R151, R64). In SILENT nothing is read. -/
def Obligations.IdleAndStartBitsMoveTheLinePhase : Prop :=
  ∀ s : State,
    let run := min 11 (s.line.recessiveRun + 1)
    (s.line.phase = .seekingIdle →
      exec .lineIdle s = .next { s with line := { s.line with recessiveRun := run, phase := if run = 11 then .idle else .seekingIdle } }
      ∧ exec .startBitRead s = .next { s with line := { s.line with recessiveRun := 0, phase := .seekingIdle } })
    ∧ (s.line.phase = .inFrame → s.line.decode = none → 1 < s.line.endBits →
      exec .lineIdle s = .next { s with line := { s.line with recessiveRun := run, endBits := s.line.endBits - 1 } }
      ∧ exec .startBitRead s = .next { s with line := { s.line with recessiveRun := 0, endBits := s.line.endBits - 1 } })
    ∧ (s.line.phase = .inFrame → s.line.decode = none → s.line.endBits = 1 →
      exec .lineIdle s = .next { s with line := { s.line with recessiveRun := run, endBits := 0, phase := if run = 11 then .idle else .seekingIdle } }
      ∧ exec .startBitRead s = .next { s with line := { s.line with recessiveRun := 0, endBits := 0, phase := .seekingIdle } })
    ∧ (s.line.phase = .idle → exec .startBitRead s = .next { s with line := { s.line with
        phase := .inFrame, recessiveRun := 0, endBits := 0, decode := some { role := .receiver, stamp := s.timebase.counter, rx := Rx.afterStart } } })
    ∧ (s.line.phase = .silent → exec .lineIdle s = .next s ∧ exec .startBitRead s = .next s)

/-! ## Replica and lease frames -/

/-- R10, R11: a grant pass on a resource grants from the head of its wait list: nothing under EXCLUSIVE, the head alone where it is EXCLUSIVE and the resource FREE, the leading SHARED
waiters where the head is SHARED and the resource FREE or SHARED. Each grant advances the counter by one and appends a holder with that number, the requested term and a replica deadline of
application time plus term plus guard; a peer's is WATCHING (MARKED where that deadline is already reached, log 5), and this station's own grants are
reported, in order. -/
def Obligations.GrantPassGrantsTheLeadingWaiters : Prop :=
  ∀ (x : LeaseContext) (r : ResNo) (e : ResourceEntry),
    let shared := e.waiters.takeWhile (fun w => w.mode = .shared)
    let n := match e.state, e.waiters.head? with
      | _, none => 0
      | .exclusive, some _ => 0
      | .free, some w => if w.mode = .exclusive then 1 else shared.length
      | .shared, some w => if w.mode = .exclusive then 0 else shared.length
    let granted := (e.waiters.take n).zipIdx.map (fun p =>
      let deadline := x.time + BitVec.ofNat 32 (64 * (p.1.term.toNat + x.config.guard.toNat))
      let own := p.1.station = x.config.station
      ({ station := p.1.station, grant := e.counter + BitVec.ofNat 16 (p.2 + 1), term := p.1.term, deadline := deadline,
         revocation := if own then none else if 0 ≤ (x.now - deadline).toInt then some .marked else some .watching } : Holder))
    let out := x.passEntry r e
    out.1.counter = e.counter + BitVec.ofNat 16 n
    ∧ out.1.waiters = e.waiters.drop n
    ∧ out.1.holders = e.holders ++ granted
    ∧ out.1.state = (if n = 0 then e.state else match e.waiters.head? with | some w => (match w.mode with | .exclusive => .exclusive | .shared => .shared) | none => e.state)
    ∧ out.2 = (granted.filter (fun h => h.station = x.config.station)).map (fun h => Report.granted r h.grant h.term x.time)

/-- R2, as far as one replica can keep it whatever it receives: in every resource entry FREE has no holder, EXCLUSIVE one, SHARED at least one, and no station stands twice among holders and
waiters; and the table a joiner rebuilds keeps the checks of R117. Whatever the command, this is kept. -/
def Obligations.LeaseTableStaysSound : Prop := ∀ (c : Instr) (s t : State), s.TableSound → exec c s = .next t → t.TableSound

/-- The line sequence number advances by exactly one with every frame handed inward while the replica is live, of any kind, applied, stale or invalid, unless the frame ends this station's
membership (R28, R195). -/
def Obligations.SequenceNumberCountsEveryFrame : Prop :=
  ∀ (s t : State) (d : Delivered) (rest : List Delivered),
    s.line.delivery = d :: rest → s.replica.live = true →
    (s.member.state = .founding ∨ s.member.state = .online ∨ s.member.state = .mute ∨ s.member.state = .leaving) →
    ¬ (d.own = true ∧ (d.frame.kind = .found ∨ d.frame.kind = .apply) ∧ OwnKind.ofId d.frame.id = s.member.orphanNote) →
    exec d.frame.kind.handing s = .next t → t.replica.live = true → t.replica.seq = s.replica.seq + 1

/-- A CLAIM of another ONLINE station that passes R8 and R12 is granted at once where the resource is FREE, or SHARED with a SHARED claim, and nobody waits: counter and entry count rise by
one, a FREE resource takes the mode, a holder is appended with the new number, the term, and stamp plus term plus guard as replica deadline, WATCHING (R13, R3).
A CLAIM of another ONLINE station that passes R8 and R12 and is not immediately grantable is denied with no change but the sequence number where no-wait is set, and otherwise waits at
the tail, taking a Wait Pool entry; nothing is granted (R14, R4, R5). -/
def Obligations.ClaimIsGrantedDeniedOrWaits : Prop :=
  (∀ (s : State) (rest : List Delivered) (p : Station) (stamp : Tick) (r : Fin 64) (noWait : Bool) (m : Mode) (term : Word16),
    s.HandedByPeer { sender := p, frame := .claim (BitVec.ofNat 8 r.val) noWait m.code term, stamp := stamp, own := false } rest →
    p ≠ s.me → (s.member.roster[p]).state = .online → r.val < s.cfg.resourceCount → term ≠ 0 → 4 * s.cfg.guard.toNat < term.toNat →
    let e := s.replica.table[r]
    let deadline := stamp + BitVec.ofNat 32 (64 * (term.toNat + s.cfg.guard.toNat))
    e.waiters = [] → (∀ h ∈ e.holders, h.station ≠ p) → s.replica.counts[p] < 8 → (e.state = .free ∨ (e.state = .shared ∧ m = .shared)) →
    (s.now - deadline).toInt < 0 →
    exec .claimFrame s = .next { s with
      line := { s.line with delivery := rest }
      replica := { s.replica with
        table := s.replica.table.set r { e with
          state := if m = .exclusive then .exclusive else .shared
          counter := e.counter + 1
          holders := e.holders ++ [{ station := p, grant := e.counter + 1, term := term, deadline := deadline, revocation := some .watching }] }
        counts := s.replica.counts.set p (s.replica.counts[p] + 1)
        seq := s.replica.seq + 1 } })
  ∧ (∀ (s : State) (rest : List Delivered) (p : Station) (stamp : Tick) (r : Fin 64) (noWait : Bool) (m : Mode) (term : Word16),
    s.HandedByPeer { sender := p, frame := .claim (BitVec.ofNat 8 r.val) noWait m.code term, stamp := stamp, own := false } rest →
    p ≠ s.me → (s.member.roster[p]).state = .online → r.val < s.cfg.resourceCount → term ≠ 0 → 4 * s.cfg.guard.toNat < term.toNat →
    let e := s.replica.table[r]
    (∀ w ∈ e.waiters, w.station ≠ p) → (∀ h ∈ e.holders, h.station ≠ p) → s.replica.counts[p] < 8 →
    (e.state = .exclusive ∨ (e.state = .shared ∧ ((e.waiters = [] ∧ m = .exclusive) ∨ e.waiters.head?.map (fun w => w.mode) = some .exclusive))) →
    exec .claimFrame s = .next { s with
      line := { s.line with delivery := rest }
      replica :=
        if noWait = true then { s.replica with seq := s.replica.seq + 1 }
        else { s.replica with
          table := s.replica.table.set r { e with waiters := e.waiters ++ [{ station := p, mode := m, term := term }] }
          counts := s.replica.counts.set p (s.replica.counts[p] + 1)
          poolFree := s.replica.poolFree - 1
          seq := s.replica.seq + 1 } })

/-- A frame of another station that is invalid or stale at a live replica and roster changes nothing but the stale/invalid count, which saturates, and the sequence number (R31, R28). Lease frames: the sender is not ONLINE, the resource is not
configured, mode or term is not allowed, the claimant already holds, waits or has 8 entries, or no holder entry (for a WITHDRAW no entry) matches (R8, R12, R15, R17, R19, R20, R195). Membership frames: a QUIT of a station that is ABSENT, a
DEPART from a sender that is not ONLINE or naming a station that is ABSENT, a FOUND, and an ADMIT, SNAPSHOT or SNAP_END that matches no admission (R90, R91, R103, R111). A stale DEPART of an ONLINE sender besides leads to the withdrawal of a DEPART of
this station for the same station that is still in the Transmit Queue (R91). -/
def Obligations.InvalidAndStaleFramesAreCounted : Prop :=
  ∀ (s : State) (rest : List Delivered) (p : Station) (f : Frame) (stamp : Tick),
    s.HandedByPeer { sender := p, frame := f, stamp := stamp, own := false } rest → p ≠ s.me →
    let outside (r : ResNo) : Prop := (s.member.roster[p]).state ≠ .online ∨ s.cfg.resourceCount ≤ r.toNat
    let badTerm (t : Word16) : Prop := t = 0 ∨ t.toNat ≤ 4 * s.cfg.guard.toNat
    let e (r : ResNo) : ResourceEntry := s.replica.entry r.toNat
    let holds (r : ResNo) (q : Station) (g : Word16) : Prop := ((e r).holders.find? (fun h => h.station == q)).map (fun h => h.grant) = some g
    let matching (j : Station) : Prop := ∃ a, s.member.admission = some a ∧ a.admitter = p ∧ a.joiner = j
    (match f with
      | .claim r _ m t => outside r ∨ m = 0 ∨ m = 3 ∨ badTerm t ∨ (e r).holders.any (fun h => h.station == p) = true ∨ (e r).waiters.any (fun w => w.station == p) = true
          ∨ 8 ≤ s.replica.counts[p]
      | .drop r g => outside r ∨ ¬ holds r p g
      | .extend r g t => outside r ∨ badTerm t ∨ ¬ holds r p g
      | .withdraw r => outside r ∨ ((e r).holders.any (fun h => h.station == p) = false ∧ (e r).waiters.any (fun w => w.station == p) = false)
      | .revoke r q g => outside r ∨ ¬ holds r q g
      | .quit => (s.member.roster[p]).state = .absent
      | .depart q => q ≠ s.me ∧ ((s.member.roster[p]).state ≠ .online ∨ ((s.member.roster[q]).state = .absent ∧ (s.member.roster[q]).departQueued = false))
      | .found _ _ => True
      | .admitJoiner j i _ _ _ => ¬ matching j ∨ s.member.admission.map (fun a => a.incarnation) ≠ some i
      | .snapshot j _ => ¬ matching j
      | .snapEnd j _ => ¬ matching j
      | .apply _ _ => False
      | .beacon _ => False
      | .decline _ => False) →
    exec f.kind.handing s = .next { s with
      line := { s.line with delivery := rest }
      tx := match f with
        | .depart q => if (s.member.roster[p]).state = .online then (s.tx.withdraw (.depart q)).2 else s.tx
        | _ => s.tx
      replica := { s.replica with stale := if s.replica.stale = 65535 then 65535 else s.replica.stale + 1, seq := s.replica.seq + 1 } }

/-- A DROP that matches the sender's holding, a WITHDRAW of a holder, and a REVOKE that matches a peer's holding end it alike: the holder entry goes, the resource is FREE if no holder remains, the holder's
entry count falls by one, and the grant pass runs on what is left, its grants returning wait entries to the pool (R15, R19, R20, R10). Stated for a holding of
another station with no REVOKE of this station queued for it, and waiters of other stations whose deadlines would lie ahead.
A WITHDRAW of a waiting station removes its wait entry, returns it to the pool, lowers its entry count by one and runs the grant pass (R18). Stated for waiters of other stations whose
deadlines would lie ahead. -/
def Obligations.EndedEntryOpensTheGrantPass : Prop :=
  (∀ (s : State) (rest : List Delivered) (p q : Station) (f : Frame) (stamp : Tick) (r : Fin 64) (h : Holder),
    s.HandedByPeer { sender := p, frame := f, stamp := stamp, own := false } rest →
    p ≠ s.me → q ≠ s.me → (s.member.roster[p]).state = .online → r.val < s.cfg.resourceCount →
    let e := s.replica.table[r]
    let no : ResNo := BitVec.ofNat 8 r.val
    e.holders.find? (fun x => x.station == q) = some h → h.revocation ≠ some .queued →
    ((f = .drop no h.grant ∧ p = q) ∨ (f = .withdraw no ∧ p = q ∧ ∀ w ∈ e.waiters, w.station ≠ p) ∨ f = .revoke no q h.grant) →
    (∀ w ∈ e.waiters, w.station ≠ s.me ∧ (s.now - (stamp + BitVec.ofNat 32 (64 * (w.term.toNat + s.cfg.guard.toNat)))).toInt < 0) →
    let left := e.holders.filter (fun x => x.station != q)
    let passed := ((s.leaseContext stamp).passEntry no { e with holders := left, state := if left = [] then .free else e.state }).1
    exec f.kind.handing s = .next { s with
      line := { s.line with delivery := rest }
      replica := { s.replica with
        table := s.replica.table.set r passed
        counts := s.replica.counts.set q (s.replica.counts[q] - 1)
        poolFree := s.replica.poolFree + (e.waiters.length - passed.waiters.length)
        seq := s.replica.seq + 1 } })
  ∧ (∀ (s : State) (rest : List Delivered) (p : Station) (stamp : Tick) (r : Fin 64),
    s.HandedByPeer { sender := p, frame := .withdraw (BitVec.ofNat 8 r.val), stamp := stamp, own := false } rest →
    p ≠ s.me → (s.member.roster[p]).state = .online → r.val < s.cfg.resourceCount →
    let e := s.replica.table[r]
    (∃ w ∈ e.waiters, w.station = p) →
    (∀ w ∈ e.waiters, w.station ≠ s.me ∧ (s.now - (stamp + BitVec.ofNat 32 (64 * (w.term.toNat + s.cfg.guard.toNat)))).toInt < 0) →
    let left := e.waiters.filter (fun w => w.station != p)
    let passed := ((s.leaseContext stamp).passEntry (BitVec.ofNat 8 r.val) { e with waiters := left }).1
    exec .withdrawFrame s = .next { s with
      line := { s.line with delivery := rest }
      replica := { s.replica with
        table := s.replica.table.set r passed
        counts := s.replica.counts.set p (s.replica.counts[p] - 1)
        poolFree := s.replica.poolFree + 1 + (left.length - passed.waiters.length)
        seq := s.replica.seq + 1 } })

/-- An EXTEND that matches its sender's holding renews it in place: counter advanced, the new value as grant number, the frame's term, stamp plus term plus guard as replica deadline, WATCHING
again; a REVOKE of this station queued for the old holding is withdrawn; state, waiters and entry counts stay (R16, R25). -/
def Obligations.ExtendRenewsInPlace : Prop :=
  ∀ (s : State) (rest : List Delivered) (p : Station) (stamp : Tick) (r : Fin 64) (term : Word16) (h : Holder) (before after : List Holder),
    s.HandedByPeer { sender := p, frame := .extend (BitVec.ofNat 8 r.val) h.grant term, stamp := stamp, own := false } rest →
    p ≠ s.me → (s.member.roster[p]).state = .online → r.val < s.cfg.resourceCount → term ≠ 0 → 4 * s.cfg.guard.toNat < term.toNat →
    let e := s.replica.table[r]
    let deadline := stamp + BitVec.ofNat 32 (64 * (term.toNat + s.cfg.guard.toNat))
    e.holders = before ++ h :: after → h.station = p → (∀ x ∈ before ++ after, x.station ≠ p) → (s.now - deadline).toInt < 0 →
    exec .extendFrame s = .next { s with
      line := { s.line with delivery := rest }
      tx := if h.revocation = some .queued then (s.tx.withdraw (.revoke (BitVec.ofNat 8 r.val) p h.grant)).2 else s.tx
      replica := { s.replica with
        table := s.replica.table.set r { e with
          counter := e.counter + 1
          holders := before ++ { station := p, grant := e.counter + 1, term := term, deadline := deadline, revocation := some .watching } :: after }
        seq := s.replica.seq + 1 } }

/-- What settles a slot of this station at the application that reports it (R9). R40, R42: its own CLAIM, granted at once, makes its SENDING slot HELD with the new grant number and a self-expiry deadline of stamp plus term less the guard, or less twice
the guard unless the timebase is LOCKED, and places GRANTED for the ACQUIRE. R50: its DROP ends a RELEASING slot with RELEASED. R46: its EXTEND makes a RENEWING slot HELD with the new number, term and deadline, and places RENEWED. R53: its
WITHDRAW of a wait entry ends a WITHDRAWING slot with CANCELLED, then CANCEL_DONE. R41: a grant pass that a peer's DROP opens makes its WAITING slot HELD and places GRANTED. The DROPs are stated for the only holder; of the waiters
left, none is this station's and each one's deadline would lie ahead. -/
def Obligations.ApplicationsSettleTheSlot : Prop :=
  ∀ (s : State) (rest : List Delivered) (d : Delivered) (r : Fin 64) (i : Fin 8),
    let no : ResNo := BitVec.ofNat 8 r.val
    let e := s.replica.table[r]
    let sl := s.claims[i]
    s.line.delivery = d :: rest → s.member.state = .online → s.replica.live = true → s.replica.marked = [] → r.val < s.cfg.resourceCount →
    (s.member.roster[d.sender]).state = .online → s.findSlot no = some i →
    let lead := if s.timebase.state = .locked then s.cfg.guard.toNat else 2 * s.cfg.guard.toNat
    let selfExpiry (term : Word16) : Tick := d.stamp + BitVec.ofNat 32 (64 * term.toNat) - BitVec.ofNat 32 (64 * lead)
    let deadline (term : Word16) : Tick := d.stamp + BitVec.ofNat 32 (64 * (term.toNat + s.cfg.guard.toNat))
    let mine (g term : Word16) : Holder := { station := s.me, grant := g, term := term, revocation := none, deadline := deadline term }
    let event (k : EventKind) (tag : Byte) (g : Word16) (detail : Byte) : EventRecord := { kind := k, tag := tag, subject := no, grant := g, detail := detail, count := 0 }
    let marker (k : LeaseKind) : Option FrameMarker := some { kind := k, withdrawn := false, dropFollows := false }
    let settled (tx : TransmitQueue) (told : List EventRecord) (slot : Slot) (e' : ResourceEntry) (counts : Vector Nat 16) (pool : Nat) :
        Host.Outcome State Fault Refusal := .next { s with
      line := { s.line with delivery := rest }
      tx := tx
      host := told.foldl HostPort.raise s.host
      claims := s.claims.set i slot
      replica := { s.replica with table := s.replica.table.set r e', counts := counts, poolFree := pool, seq := s.replica.seq + 1 } }
    let awaited (id : FrameId) : TransmitQueue := { s.tx with awaiting := s.tx.awaiting.erase id }
    let counts := s.replica.counts
    (d.own = true → d.sender = s.me →
      (∀ (noWait : Bool) (m : Mode) (term : Word16), d.frame = .claim no noWait m.code term → term ≠ 0 → 4 * s.cfg.guard.toNat < term.toNat →
        e.state = .free → e.holders = [] → e.waiters = [] → counts[s.me] < 8 → sl.state = .sending → sl.command = none →
        exec .claimFrame s = settled (awaited (.claim no)) [event .granted sl.tag (e.counter + 1) 0]
          { sl with state := .held, grant := some (e.counter + 1), marker := none, deadline := some (selfExpiry term) }
          { state := if m = .exclusive then .exclusive else .shared, counter := e.counter + 1, waiters := [], holders := [mine (e.counter + 1) term] }
          (counts.set s.me (counts[s.me] + 1)) s.replica.poolFree)
      ∧ (∀ (h : Holder) (tag : Byte), d.frame = .drop no h.grant → e.holders = [h] → h.station = s.me → h.revocation = none → e.waiters = [] →
        sl.state = .releasing → sl.command = some (.release, tag) → sl.grant = some h.grant →
        exec .dropFrame s = settled (awaited (.drop no)) [event .released tag h.grant 1] Slot.clear { e with state := .free, holders := [] }
          (counts.set s.me (counts[s.me] - 1)) s.replica.poolFree)
      ∧ (∀ (h : Holder) (before after : List Holder) (term : Word16) (tag : Byte), d.frame = .extend no h.grant term → term ≠ 0 → 4 * s.cfg.guard.toNat < term.toNat →
        e.holders = before ++ h :: after → h.station = s.me → h.revocation = none → (∀ x ∈ before ++ after, x.station ≠ s.me) →
        sl.state = .renewing → sl.command = some (.renew, tag) →
        exec .extendFrame s = settled (awaited (.extend no)) [event .renewed tag (e.counter + 1) 0]
          { sl with state := .held, term := term, command := none, marker := none, grant := some (e.counter + 1), deadline := some (selfExpiry term) }
          { e with counter := e.counter + 1, holders := before ++ mine (e.counter + 1) term :: after } counts s.replica.poolFree)
      ∧ (∀ tag : Byte, d.frame = .withdraw no → (∃ w ∈ e.waiters, w.station = s.me) →
        (∀ w ∈ e.waiters, w.station ≠ s.me → (s.now - deadline w.term).toInt < 0) →
        sl.state = .withdrawing → sl.command = some (.cancel, tag) → sl.marker = marker .withdraw →
        let left := e.waiters.filter (fun w => w.station != s.me)
        let passed := ((s.leaseContext d.stamp).passEntry no { e with waiters := left }).1
        exec .withdrawFrame s = settled (awaited (.withdraw no)) [event .cancelled sl.tag 0 0, event .cancelDone tag 0 2] Slot.clear passed
          (counts.set s.me (counts[s.me] - 1)) (s.replica.poolFree + 1 + (left.length - passed.waiters.length))))
    ∧ ∀ (h : Holder) (w : Waiter), d.own = false → d.sender ≠ s.me → d.frame = .drop no h.grant → e.holders = [h] → h.station = d.sender → h.revocation ≠ some .queued →
      e.waiters = [w] → w.station = s.me → sl.state = .waiting →
      exec .dropFrame s = settled s.tx [event .granted sl.tag (e.counter + 1) 0]
        { sl with state := .held, grant := some (e.counter + 1), deadline := some (selfExpiry w.term) }
        { state := if w.mode = .exclusive then .exclusive else .shared, counter := e.counter + 1, waiters := [], holders := [mine (e.counter + 1) w.term] }
        (counts.set d.sender (counts[d.sender] - 1)) (s.replica.poolFree + 1)

/-- R44: when a peer's REVOKE ends a HELD lease of this station, LOST is placed with detail REVOKED and the revoked grant number for the ACQUIRE tag, and the slot becomes EMPTY; in the replica the holder entry
goes and the resource, with no waiter and no other holder, is FREE (R20). -/
def Obligations.RevokedHoldingIsLost : Prop :=
  ∀ (s : State) (rest : List Delivered) (p : Station) (stamp : Tick) (r : Fin 64) (h : Holder) (i : Fin 8),
    let no : ResNo := BitVec.ofNat 8 r.val
    s.HandedByPeer { sender := p, frame := .revoke no s.me h.grant, stamp := stamp, own := false } rest →
    (s.member.roster[p]).state = .online → r.val < s.cfg.resourceCount →
    let e := s.replica.table[r]
    e.holders = [h] → h.station = s.me → h.revocation = none → e.waiters = [] → s.findSlot no = some i → (s.claims[i]).state = .held →
    let told : EventRecord := { kind := .lost, tag := (s.claims[i]).tag, subject := no, grant := h.grant, detail := 2, count := 0 }
    exec .revokeFrame s = .next { s with
      line := { s.line with delivery := rest }
      host := s.host.raise told
      claims := s.claims.set i Slot.clear
      replica := { s.replica with
        table := s.replica.table.set r { e with state := .free, holders := [] }
        counts := s.replica.counts.set s.me (s.replica.counts[s.me] - 1)
        seq := s.replica.seq + 1 } }

/-- What each report for its resource, and a DISCARDED of its frame, does at a claim slot, by the slot's state (R36, R40, R41, R44, R46, R47, R50, R52 to R56): a lone claim that is granted, queued, denied or rejected; the same with a CANCEL pending; a
renewal, a release and a cancellation that are applied, found stale, rejected or overtaken by a REVOKE, which leads to the withdrawal of the slot's frame and, where that is on the line, to ENDING with the answer to follow; a
lapsed slot that tidies up in silence. The answer to follow is placed in the event that ends the slot (R56). Frame and command of the slot are those of its state. With no slot for the resource nothing changes (R57). Two clauses are the
model's readings: at a LAPSED slot the applied EXTEND replaces the term, which R55 does not say (R34, log 26), and a withdrawal answered NOT_FOUND is handled as REMOVED (R135, log 18). -/
def Obligations.ReportsMoveTheSlotByTheTables : Prop :=
  (∀ (s : State) (rep : Report) (k : LeaseKind) (no : ResNo),
    (s.findSlot rep.resource = none → s.claimReport rep = s) ∧ (s.findSlot no = none → s.claimDiscarded k no = s))
  ∧ ∀ (s : State) (i : Fin 8) (no : ResNo), s.findSlot no = some i →
    let sl := s.claims[i]
    sl.resource = no →
    let event (k : EventKind) (tag : Byte) (g : Word16) (detail count : Byte) : EventRecord :=
      { kind := k, tag := tag, subject := no, grant := g, detail := detail, count := count }
    let marker (k : LeaseKind) : Option FrameMarker := some { kind := k, withdrawn := false, dropFollows := false }
    let moved (slot : Slot) (told : List EventRecord) : State := { s with claims := s.claims.set i slot, host := told.foldl HostPort.raise s.host }
    let ended (told : List EventRecord) : State := moved Slot.clear told
    let queues (slot : Slot) (f : Frame) (told : List EventRecord) : State := { moved slot told with tx := (s.tx.insert f).2 }
    let overtaken (k : LeaseKind) (answer : Option FollowingAnswer) (told follow : List EventRecord) : State :=
      let asked := s.tx.withdraw (k.id no)
      { (if asked.1 = .onLine then moved { sl with state := .ending, answer := answer, marker := some { kind := k, withdrawn := true, dropFollows := false } } told
         else ended (told ++ follow)) with tx := asked.2 }
    let lead := if s.timebase.state = .locked then s.cfg.guard.toNat else 2 * s.cfg.guard.toNat
    let holding (slot : Slot) (g term : Word16) (time : Tick) : Slot :=
      { slot with grant := some g, deadline := some (time + BitVec.ofNat 32 (64 * term.toNat) - BitVec.ofNat 32 (64 * lead)) }
    (∀ (g term : Word16) (time : Tick) (pos : Nat),
      let told := event .granted sl.tag g 0 0
      let queued := event .queued sl.tag 0 0 (BitVec.ofNat 8 pos)
      let granted : Report := .granted no g term time
      (sl.state = .sending → sl.command = none →
        s.claimReport granted = moved { holding sl g term time with state := .held, marker := none } [told]
        ∧ s.claimReport (.queued no pos) = moved { sl with state := .waiting, marker := none } [queued]
        ∧ s.claimReport (.denied no) = ended [event .denied sl.tag 0 0 0]
        ∧ s.claimReport (.rejected no .claim) = ended [event .denied sl.tag 0 1 0])
      ∧ (∀ tag, sl.state = .sending → sl.command = some (.cancel, tag) → sl.marker = some { kind := .claim, withdrawn := true, dropFollows := false } →
        s.claimReport granted = queues { holding sl g term time with state := .withdrawing, marker := marker .drop } (.drop no g) [told]
        ∧ s.claimReport (.queued no pos) = queues { sl with state := .withdrawing, marker := marker .withdraw } (.withdraw no) [queued]
        ∧ s.claimReport (.denied no) = ended [event .denied sl.tag 0 0 0, event .cancelDone tag 0 4 0]
        ∧ s.claimReport (.rejected no .claim) = ended [event .denied sl.tag 0 1 0, event .cancelDone tag 0 4 0]
        ∧ s.claimDiscarded .claim no = ended [event .cancelled sl.tag 0 0 0, event .cancelDone tag 0 1 0])
      ∧ (sl.state = .waiting → s.claimReport granted = moved { holding sl g term time with state := .held } [told])
      ∧ (sl.state = .withdrawing → sl.marker = marker .withdraw → s.claimReport granted = moved (holding sl g term time) [told]))
    ∧ (∀ g, sl.state = .held → s.claimReport (.revoked no g) = ended [event .lost sl.tag g 2 0])
    ∧ (∀ g tag, sl.state = .renewing → sl.command = some (.renew, tag) → sl.marker = marker .extend → sl.grant = some g →
      (∀ g' term time, s.claimReport (.extendApplied no g' term time)
        = moved { holding sl g' term time with state := .held, term := term, command := none, marker := none } [event .renewed tag g' 0 0])
      ∧ s.claimReport (.revoked no g) = overtaken .extend (some .renewLateRevoked) [event .lost sl.tag g 2 0] [event .renewLate tag g 2 0]
      ∧ s.claimReport (.extendStale no) = ended [event .lost sl.tag g 2 0, event .renewLate tag g 2 0]
      ∧ s.claimReport (.rejected no .extend) = moved { sl with state := .held, command := none, marker := none } [event .renewLate tag g 3 0])
    ∧ (∀ g tag, sl.state = .releasing → sl.command = some (.release, tag) → sl.marker = marker .drop → sl.grant = some g →
      s.claimReport (.dropApplied no g) = ended [event .released tag g 1 0]
      ∧ s.claimReport (.revoked no g) = overtaken .drop (some .releasedRevokedFirst) [] [event .released tag g 2 0]
      ∧ s.claimReport (.dropStale no) = ended [event .released tag g 2 0]
      ∧ s.claimReport (.rejected no .drop) = queues sl (.drop no g) [])
    ∧ (∀ tag, sl.state = .withdrawing → sl.command = some (.cancel, tag) →
      (sl.marker = marker .withdraw →
        s.claimReport (.withdrawFromWait no) = ended [event .cancelled sl.tag 0 0 0, event .cancelDone tag 0 2 0]
        ∧ s.claimReport (.rejected no .withdraw) = queues sl (.withdraw no) []
        ∧ (sl.grant = none → s.claimReport (.withdrawStale no) = ended [event .cancelled sl.tag 0 0 0, event .cancelDone tag 0 2 0])
        ∧ ∀ g, s.claimReport (.withdrawAsDrop no g) = ended [event .cancelDone tag g 3 0]
          ∧ (sl.grant = some g → s.claimReport (.withdrawStale no) = ended [event .cancelDone tag g 3 0]
            ∧ s.claimReport (.revoked no g) = overtaken .withdraw (some .cancelDoneAfterGrant) [] [event .cancelDone tag g 3 0]))
      ∧ (∀ g, sl.marker = marker .drop → sl.grant = some g →
        s.claimReport (.dropApplied no g) = ended [event .cancelDone tag g 3 0]
        ∧ s.claimReport (.dropStale no) = ended [event .cancelDone tag g 3 0]
        ∧ s.claimReport (.rejected no .drop) = queues sl (.drop no g) []
        ∧ s.claimReport (.revoked no g) = overtaken .drop (some .cancelDoneAfterGrant) [] [event .cancelDone tag g 3 0]))
    ∧ (∀ g, sl.state = .lapsed → sl.grant = some g →
      (sl.marker = marker .drop →
        (∀ g', s.claimReport (.dropApplied no g') = ended [])
        ∧ s.claimReport (.dropStale no) = ended []
        ∧ s.claimReport (.rejected no .drop) = queues sl (.drop no g) []
        ∧ s.claimReport (.revoked no g) = overtaken .drop none [] [])
      ∧ (sl.marker = some { kind := .extend, withdrawn := true, dropFollows := true } →
        (∀ g' term time, s.claimReport (.extendApplied no g' term time) = queues { sl with grant := some g', term := term, marker := marker .drop } (.drop no g') [])
        ∧ s.claimReport (.rejected no .extend) = queues { sl with marker := marker .drop } (.drop no g) []
        ∧ s.claimDiscarded .extend no = queues { sl with marker := marker .drop } (.drop no g) []
        ∧ s.claimReport (.extendStale no) = ended []
        ∧ s.claimReport (.revoked no g)
          = moved { sl with state := .ending, answer := none, marker := some { kind := .extend, withdrawn := true, dropFollows := false } } []))
    ∧ ∀ (c : PendingKind) (tag : Byte) (g : Word16) (k : LeaseKind),
      sl.state = .ending → sl.command = some (c, tag) → sl.grant = some g → sl.marker = some { kind := k, withdrawn := true, dropFollows := false } →
      let follow : List EventRecord := match sl.answer with
        | none => []
        | some .renewLateRevoked => [event .renewLate tag g 2 0]
        | some .releasedRevokedFirst => [event .released tag g 2 0]
        | some .cancelDoneAfterGrant => [event .cancelDone tag g 3 0]
      let answered : State := { s with claims := s.claims.set i Slot.clear, host := follow.foldl HostPort.answer s.host }
      s.claimDiscarded k no = answered
      ∧ (k = .extend → s.claimReport (.extendStale no) = answered ∧ s.claimReport (.rejected no .extend) = answered)
      ∧ (k = .drop → s.claimReport (.dropStale no) = answered ∧ s.claimReport (.rejected no .drop) = answered)
      ∧ (k = .withdraw → s.claimReport (.withdrawStale no) = answered ∧ s.claimReport (.rejected no .withdraw) = answered)

/-! ## Membership and presence frames -/

/-- The first QUIT or DEPART of a peer that is JOINING or ONLINE makes its entry ABSENT, keeping its incarnation, raises PEER_LEFT where it was ONLINE, with the ONLINE peer count after the change (R90, R91, R92). In the replica all
its holder and wait entries go first, a resource left without a holder becoming FREE, its entry count becomes 0, and then a grant pass runs on each resource it held or waited for, ascending; every wait entry removed or granted returns
to the pool (R21). A DEPART of this station for it that is still in the Transmit Queue, its departure state being NONE, is withdrawn at the DEPART (R91). Stated with no admission open, departure state NONE, no REVOKE of this
station queued for it, and no grant to this station or already run out among those passes. -/
def Obligations.DepartureRemovesThePeer : Prop :=
  ∀ (s : State) (rest : List Delivered) (p q : Station) (f : Frame) (stamp : Tick),
    s.HandedByPeer { sender := p, frame := f, stamp := stamp, own := false } rest → p ≠ s.me → q ≠ s.me →
    ((f = .quit ∧ q = p) ∨ (f = .depart q ∧ (s.member.roster[p]).state = .online)) →
    let e := s.member.roster[q]
    e.state ≠ .absent → e.departQueued = false → s.member.admission = none → s.replica.queuedRevokesOf q = [] →
    (∀ r : Fin 64, ∀ w ∈ (s.replica.table[r]).waiters,
      w.station ≠ s.me ∧ (s.now - (stamp + BitVec.ofNat 32 (64 * (w.term.toNat + s.cfg.guard.toNat)))).toInt < 0) →
    let absent : RosterEntry := { RosterEntry.clear with incarnation := e.incarnation }
    let online := ((List.finRange 16).filter (fun x => x ≠ s.me ∧ x ≠ q ∧ (s.member.roster[x]).state = .online)).length
    let told : EventRecord := { kind := .peerLeft, tag := 0, subject := BitVec.ofNat 8 q.val, grant := 0, detail := if f = .quit then 1 else 2, count := BitVec.ofNat 8 online }
    let named (x : ResourceEntry) : Prop := (∃ h ∈ x.holders, h.station = q) ∨ ∃ w ∈ x.waiters, w.station = q
    let removed (x : ResourceEntry) : ResourceEntry :=
      let holders := x.holders.filter (fun h => h.station != q)
      { x with holders := holders, waiters := x.waiters.filter (fun w => w.station != q), state := if holders = [] then .free else x.state }
    ∃ passed : Vector ResourceEntry 64,
      (∀ r : Fin 64, (named s.replica.table[r] → passed[r] = ((s.leaseContext stamp).passEntry (BitVec.ofNat 8 r.val) (removed s.replica.table[r])).1)
        ∧ (¬ named s.replica.table[r] → passed[r] = s.replica.table[r]))
      ∧ exec f.kind.handing s = .next { s with
        line := { s.line with delivery := rest }
        host := if e.state = .online then s.host.answer told else s.host
        tx := if f = .quit then s.tx else (s.tx.withdraw (.depart q)).2
        member := { s.member with roster := s.member.roster.set q absent }
        replica := { s.replica with
          table := passed
          counts := s.replica.counts.set q 0
          poolFree := s.replica.poolFree + ((List.finRange 64).map (fun r => (s.replica.table[r]).waiters.length - (passed[r]).waiters.length)).sum
          seq := s.replica.seq + 1 } }

/-- R93: an accepted DEPART naming this station evicts it in FOUNDING, CATCHUP and ONLINE, in JOINING once its own APPLY has been accepted, and in MUTE or LEAVING entered from one of these: a station clear with
EVICTED, which carries the LEAVE tag if one is outstanding and the count of slots that were not EMPTY (R128). The sender is not checked. In every other state the DEPART has no effect (stated where no replica is live, whose sequence
number would advance, R28). R125: the station's own QUIT, applied in LEAVING, ends the leave: a station clear with LEFT for the LEAVE tag and the same count.
After such a clear the line sequence number does not advance for the frame that caused it: the model's reading (log 24). So is what counts as the own APPLY having been accepted: that it has been applied (log 49). -/
def Obligations.EvictionAndOwnQuitEndTheMembership : Prop :=
  (∀ (s : State) (rest : List Delivered) (p : Station) (stamp : Tick),
    s.line.delivery = { sender := p, frame := .depart s.me, stamp := stamp, own := false } :: rest →
    let taken : State := { s with line := { s.line with delivery := rest } }
    ((s.member.state = .founding ∨ s.member.state = .catchup ∨ s.member.state = .online ∨ (s.member.state = .joining ∧ s.member.attempt.isSome = true)
        ∨ ((s.member.state = .mute ∨ s.member.state = .leaving) ∧ s.member.departEvicts = true)) →
      exec .departFrame s = .next (taken.stationClear
        { kind := .evicted, tag := s.member.leaveTag.getD 0, subject := stationByte s.me, grant := 0, detail := 0, count := s.busyCount }))
    ∧ ((s.member.state = .unconfigured ∨ s.member.state = .offline ∨ s.member.state = .listen ∨ (s.member.state = .joining ∧ s.member.attempt = none)
        ∨ ((s.member.state = .mute ∨ s.member.state = .leaving) ∧ s.member.departEvicts = false ∧ s.replica.live = false)) →
      exec .departFrame s = .next taken))
  ∧ ∀ (s : State) (rest : List Delivered) (stamp : Tick) (tag : Byte),
    s.line.delivery = { sender := s.me, frame := .quit, stamp := stamp, own := true } :: rest → s.member.state = .leaving → s.member.leaveTag = some tag →
    s.member.own = some { kind := .quit, withdrawn := false, next := none } → s.member.orphanNote = none →
    let taken : State := { s with line := { s.line with delivery := rest } }
    exec .quitFrame s = .next (taken.stationClear
      { kind := .left, tag := tag, subject := stationByte s.me, grant := 0, detail := 0, count := s.busyCount })

/-- FOUND in LISTEN: this station's own makes it the founder of a group, its replica live with sequence number 0, its own entry ONLINE, the schedule and the founding period started (R104, R28, R1); another station's
with this profile digest moves it to JOINING with an APPLY queued; with another profile digest it is ignored (R103). The last two are stated with no own frame queued.
R101: in LISTEN a BEACON that reports ONLINE or FOUNDING and carries this station's profile digest moves the station to JOINING, its listen window removed, its beacon schedule started and an APPLY queued (stated with no own frame
queued); a BEACON with another state or digest is ignored. -/
def Obligations.ListenerFoundsOrJoins : Prop :=
  (∀ (s : State) (rest : List Delivered) (d : Delivered) (inc profile : Word16),
    s.line.delivery = d :: rest → d.frame = .found inc profile → s.member.state = .listen → s.member.orphanNote = none →
    let period : Tick := BitVec.ofNat 32 (64 * s.cfg.beaconPeriod.toNat)
    (d.own = true → s.member.own = some { kind := .found, withdrawn := false, next := none } →
      exec .foundFrame s = .next { s with
        line := { s.line with delivery := rest }
        tx := { s.tx with awaiting := s.tx.awaiting.erase .found }
        replica := { live := true, table := Vector.replicate 64 ResourceEntry.clear, poolFree := 128, counts := Vector.replicate 16 0, seq := 0, stale := 0 }
        member := { s.member with
          state := .founding, own := none, listenWindow := none, rosterLive := true, admission := none
          beaconDeadline := some (s.now + period)
          foundingPeriod := some (d.stamp + BitVec.ofNat 32 (64 * (s.cfg.misses.toNat * s.cfg.beaconPeriod.toNat)))
          roster := (s.member.roster.map (fun e => { RosterEntry.clear with incarnation := e.incarnation })).set s.me
            { RosterEntry.clear with state := .online, incarnation := s.member.incarnation } } })
    ∧ (d.own = false → s.member.own = none → profile = s.cfg.profile →
      exec .foundFrame s = .next { s with
        line := { s.line with delivery := rest }
        tx := (s.tx.insert (.apply (s.member.incarnation.getD 0) s.cfg.profile)).2
        member := { s.member with
          state := .joining, listenWindow := none, beaconDeadline := some (s.now + period)
          own := some { kind := .apply, withdrawn := false, next := none } } })
    ∧ (d.own = false → profile ≠ s.cfg.profile → exec .foundFrame s = .next { s with line := { s.line with delivery := rest } }))
  ∧ (∀ (s : State) (rest : List Delivered) (p : Station) (b : BeaconBody) (stamp : Tick),
    s.line.delivery = { sender := p, frame := .beacon b, stamp := stamp, own := false } :: rest → s.member.state = .listen →
    let shows := (b.stationState = 6 ∨ b.stationState = 3) ∧ b.profile = s.cfg.profile
    (shows → s.member.own = none → exec .beaconFrame s = .next { s with
      line := { s.line with delivery := rest }
      tx := (s.tx.insert (.apply (s.member.incarnation.getD 0) s.cfg.profile)).2
      member := { s.member with
        state := .joining, listenWindow := none, beaconDeadline := some (s.now + BitVec.ofNat 32 (64 * s.cfg.beaconPeriod.toNat))
        own := some { kind := .apply, withdrawn := false, next := none } } })
    ∧ (¬ shows → exec .beaconFrame s = .next { s with line := { s.line with delivery := rest } }))

/-- R108: an APPLY of another station at a live roster. It is declined for a foreign profile digest, an entry that is not ABSENT, or an open admission, in that order: nothing changes but the sequence number, and the
admitter, the lowest ONLINE station, hands over a DECLINE, unless it is a founder that abandons its group (R106). Otherwise the admission opens: the entry becomes JOINING and is heard, and the record holds joiner, incarnation, admitter and the
APPLY's own sequence number (R80, R86, R107). Where this station is the admitter, the statement on the capture gives what it does besides.
That a DEPART of this station for the joiner that is still queued stays, its departure state becoming NONE, is the model's reading of R80 against R86 (log 50). -/
def Obligations.ApplyIsDeclinedOrOpensTheAdmission : Prop :=
  ∀ (s : State) (rest : List Delivered) (p admitter : Station) (inc profile : Word16) (stamp : Tick),
    s.HandedToMember { sender := p, frame := .apply inc profile, stamp := stamp, own := false } rest → p ≠ s.me →
    (s.member.roster[admitter]).state = .online → (∀ x : Station, x < admitter → (s.member.roster[x]).state ≠ .online) →
    let handed : State := { s with line := { s.line with delivery := rest }, replica := { s.replica with seq := s.replica.seq + 1 } }
    let declined (reason : Byte) : Host.Outcome State Fault Refusal :=
      .next (if admitter = s.me ∧ s.member.abandoning = false then { handed with tx := s.tx.handDecline { joiner := p, incarnation := inc, reason := reason } } else handed)
    (profile ≠ s.cfg.profile → exec .applyFrame s = declined 2)
    ∧ (profile = s.cfg.profile → (s.member.roster[p]).state ≠ .absent → exec .applyFrame s = declined 3)
    ∧ (profile = s.cfg.profile → (s.member.roster[p]).state = .absent → s.member.admission ≠ none → exec .applyFrame s = declined 1)
    ∧ (profile = s.cfg.profile → (s.member.roster[p]).state = .absent → s.member.admission = none → admitter ≠ s.me →
      exec .applyFrame s = .next { handed with member := { s.member with
        admission := some { joiner := p, incarnation := inc, admitter := admitter, capture := s.replica.seq + 1 }
        roster := s.member.roster.set p { RosterEntry.clear with
          state := .joining, incarnation := some inc, lastHeard := some stamp
          presence := if s.member.state = .online then some (stamp + BitVec.ofNat 32 (64 * (s.cfg.misses.toNat * s.cfg.beaconPeriod.toNat))) else none } } })

/-- This station as the admitter. An APPLY that opens the admission removes what it still holds of DECLINEs for the joiner, queued and pending (R141); unless it abandons its group (R106) it then captures the replica into the Snapshot Buffer,
its parts, its digest and the roster states after the APPLY, and queues the ADMIT that carries them (R109). The parts are numbered from 0 and ascend by resource; a configured resource that is not as after a station clear has one or more, its members in list order,
four to a part but for the last; a holder's remaining term is its deadline less the guard less the APPLY's stamp in whole LTU, at least 1 (R109, R194). R110, R139: each own ADMIT or SNAPSHOT applied queues the next part, and SNAP_END after
the last. R110, R111: its own SNAP_END applied closes the admission, empties the buffer, makes the joiner ONLINE and raises PEER_JOINED.
That the DECLINEs are removed before the ADMIT is inserted is the model's order (log 17), and that a DEPART of this station for the joiner that is still queued stays is its reading of R80 against R86 (log 50). -/
def Obligations.AdmitterCapturesAndStreams : Prop :=
  (∀ (s : State) (rest : List Delivered) (p : Station) (inc : Word16) (stamp : Tick),
    s.HandedToMember { sender := p, frame := .apply inc s.cfg.profile, stamp := stamp, own := false } rest → p ≠ s.me →
    (s.member.roster[s.me]).state = .online → (∀ x : Station, x < s.me → (s.member.roster[x]).state ≠ .online) →
    (s.member.roster[p]).state = .absent → s.member.admission = none →
    ∃ states : BitVec 32,
      (∀ x : Station, BitVec.ofNat 2 (states.toNat / 4 ^ (15 - x.val)) = BitVec.ofNat 2 (if x = p then 1 else (s.member.roster[x]).state.code))
      ∧ (let parts := s.replica.captureParts s.cfg stamp
        let cleared := ({ s.tx with pendingDeclines := s.tx.pendingDeclines.filter (fun d => d.joiner != p) }.withdraw (.decline p)).2
        exec .applyFrame s = .next { s with
          line := { s.line with delivery := rest }
          replica := { s.replica with seq := s.replica.seq + 1 }
          tx := if s.member.abandoning = true then cleared else (cleared.insert (.admitJoiner p inc (s.replica.seq + 1) (BitVec.ofNat 8 parts.length) states)).2
          member := { s.member with
            admission := some { joiner := p, incarnation := inc, admitter := s.me, capture := s.replica.seq + 1 }
            roster := s.member.roster.set p { RosterEntry.clear with
              state := .joining, incarnation := some inc, lastHeard := some stamp
              presence := if s.member.state = .online then some (stamp + BitVec.ofNat 32 (64 * (s.cfg.misses.toNat * s.cfg.beaconPeriod.toNat))) else none }
            snapshot := if s.member.abandoning = true then s.member.snapshot
              else .capture { joiner := p, parts := parts, digest := s.digest, states := states, sent := 0 } } }))
  ∧ (∀ (rep : Replica) (c : ConfigRecord) (time : Tick),
    let parts := rep.captureParts c time
    parts.map (fun x => x.index) = (List.range parts.length).map (BitVec.ofNat 8)
    ∧ (parts.map (fun x => x.resource.toNat)).Pairwise (· ≤ ·)
    ∧ (∀ x ∈ parts, x.resource.toNat < c.resourceCount)
    ∧ ∀ r : Fin 64, r.val < c.resourceCount →
      let e := rep.table[r]
      let remaining (h : Holder) : Int := (h.deadline - BitVec.ofNat 32 (64 * c.guard.toNat) - time).toInt / 64
      let members : List Member :=
        e.holders.map (fun h => { holder := true, mode := 0, station := h.station, grant := h.grant
                                  term := if remaining h < 1 then 1 else BitVec.ofInt 16 (remaining h) })
          ++ e.waiters.map (fun w => { holder := false, mode := if w.mode = .exclusive then 1 else 2, station := w.station, grant := 0, term := w.term })
      let own := parts.filter (fun x => x.resource.toNat = r.val)
      (e = ResourceEntry.clear → own = [])
      ∧ (e ≠ ResourceEntry.clear → own ≠ [] ∧ own.flatMap (fun x => x.members) = members
        ∧ (∀ x ∈ own, x.state = BitVec.ofNat 2 e.state.code ∧ x.counter = e.counter ∧ x.members.length ≤ 4 ∧ (members ≠ [] → x.members ≠ []))
        ∧ (∀ x ∈ own.dropLast, x.members.length = 4)))
  ∧ ∀ (s : State) (rest : List Delivered) (f : Frame) (stamp : Tick) (adm : Admission),
    s.line.delivery = { sender := s.me, frame := f, stamp := stamp, own := true } :: rest → (s.member.state = .founding ∨ s.member.state = .online) →
    s.replica.live = true → s.replica.marked = [] → s.member.admission = some adm → adm.admitter = s.me → adm.joiner ≠ s.me →
    let handed : State := { s with
      line := { s.line with delivery := rest }
      tx := { s.tx with awaiting := s.tx.awaiting.erase .stream }
      replica := { s.replica with seq := s.replica.seq + 1 } }
    (∀ c : Capture, s.member.snapshot = .capture c →
      ((∃ capture parts states, f = .admitJoiner adm.joiner adm.incarnation capture parts states) ∨ ∃ part, f = .snapshot adm.joiner part) →
      exec f.kind.handing s = .next { handed with
        tx := (handed.tx.insert (match c.parts[c.sent]? with | some part => .snapshot c.joiner part | none => .snapEnd c.joiner c.digest)).2
        member := { s.member with snapshot := .capture { c with sent := c.sent + 1 } } })
    ∧ (∀ digest, f = .snapEnd adm.joiner digest → (s.member.roster[adm.joiner]).state = .joining →
      let online := ((List.finRange 16).filter (fun x => x ≠ s.me ∧ (x = adm.joiner ∨ (s.member.roster[x]).state = .online))).length
      let told : EventRecord := { kind := .peerJoined, tag := 0, subject := BitVec.ofNat 8 adm.joiner.val, grant := 0, detail := 0, count := BitVec.ofNat 8 online }
      exec .snapEndFrame s = .next { handed with
        host := s.host.answer told
        member := { s.member with
          admission := none
          snapshot := .empty
          roster := s.member.roster.set adm.joiner { s.member.roster[adm.joiner] with state := .online } } })

/-- R113, R123: a joiner's own APPLY, applied in JOINING, begins the attempt: a record with the APPLY's stamp, accepted count 0, an empty Catch-up Queue and phase AWAITING, and the join attempt timer at stamp plus 8
beacon periods. Any other frame before it is ignored. -/
def Obligations.OwnApplyBeginsTheAttempt : Prop :=
  ∀ (s : State) (rest : List Delivered) (d : Delivered),
    s.line.delivery = d :: rest → s.member.state = .joining → s.member.attempt = none → s.member.orphanNote = none → s.member.backoff = none →
    (d.own = true → (∃ inc profile, d.frame = .apply inc profile) → s.member.own = some { kind := .apply, withdrawn := false, next := none } →
      exec .applyFrame s = .next { s with
        line := { s.line with delivery := rest }
        tx := { s.tx with awaiting := s.tx.awaiting.erase .apply }
        member := { s.member with
          own := none
          attempt := some { stamp := d.stamp, accepted := 0, catchup := [], admission := none, phase := .awaiting }
          joinTimer := some (d.stamp + BitVec.ofNat 32 (512 * s.cfg.beaconPeriod.toNat)) } })
    ∧ (d.own = false → exec d.frame.kind.handing s = .next { s with line := { s.line with delivery := rest } })

/-- R116: an ADMIT for this station in phase AWAITING, with usable roster states and an admitter that has not left since, moves it to CATCHUP: the admission part is recorded, the roster loaded from the frame and live,
the admission record OPEN with this station as joiner, the Snapshot Buffer at the values of a station clear, and the frame counted (R114). The sender is heard in the roster it brought (R86; the model's reading, log 32). No other
entry keeps an incarnation, the model's reading of R80 against R116 (log 42). A sender that has left since fails the attempt with ADMITTER_LEFT, and otherwise unusable states fail it with CHECK; the order is the model's (log 43).
R115: a DECLINE for this station in phase AWAITING ends the attempt. BUSY places JOIN_RETRY, uncounted, and sets the backoff to now plus (station number + 1) quarter beacon periods; MISMATCH and DUPLICATE
place JOIN_FAILED with a station clear. A DECLINE with another reason is set aside and only counted (R114, R195). -/
def Obligations.AwaitingJoinerIsAdmittedOrDeclined : Prop :=
  (∀ (s : State) (rest : List Delivered) (p : Station) (capture : Word16) (parts : Byte) (states : BitVec 32) (stamp : Tick) (a : Attempt),
    s.line.delivery = { sender := p, frame := .admitJoiner s.me (s.member.incarnation.getD 0) capture parts states, stamp := stamp, own := false } :: rest →
    s.member.state = .joining → s.member.attempt = some a → a.phase = .awaiting →
    (∀ d ∈ a.catchup, d.frame ≠ .depart p ∧ ¬ (d.frame = .quit ∧ d.sender = p)) →
    let code (x : Station) : BitVec 2 := BitVec.ofNat 2 (states.toNat / 4 ^ (15 - x.val))
    (∀ x : Station, code x ≠ 3) → code s.me = 1 →
    exec .admitFrame s = .next { s with
      line := { s.line with delivery := rest }
      member := { s.member with
        state := .catchup
        attempt := some { a with
          accepted := a.accepted + 1, phase := .collecting
          admission := some { admitter := p, capture := capture, parts := parts.toNat, next := 0 } }
        roster := Vector.ofFn (fun x : Station => { RosterEntry.clear with
          state := if code x = 2 then .online else if code x = 1 then .joining else .absent
          incarnation := if x = s.me then s.member.incarnation else none
          lastHeard := if x = p ∧ x ≠ s.me ∧ code x ≠ 0 then some stamp else none })
        rosterLive := true
        admission := some { joiner := s.me, incarnation := s.member.incarnation.getD 0, admitter := p, capture := capture }
        snapshot := .rebuild { table := Vector.replicate 64 { state := .free, counter := 0, holders := [], waiters := [] }, last := none } } })
  ∧ (∀ (s : State) (rest : List Delivered) (p : Station) (capture : Word16) (parts : Byte) (states : BitVec 32) (stamp : Tick) (a : Attempt),
    s.line.delivery = { sender := p, frame := .admitJoiner s.me (s.member.incarnation.getD 0) capture parts states, stamp := stamp, own := false } :: rest →
    s.member.state = .joining → s.member.attempt = some a → a.phase = .awaiting →
    let code (x : Station) : BitVec 2 := BitVec.ofNat 2 (states.toNat / 4 ^ (15 - x.val))
    let gone : Prop := ∃ d ∈ a.catchup, d.frame = .depart p ∨ (d.frame = .quit ∧ d.sender = p)
    let counted : State := { s with
      line := { s.line with delivery := rest }
      member := { s.member with attempt := some { a with accepted := a.accepted + 1 } } }
    (gone → exec .admitFrame s = .next (counted.failAttempt .admitterLeft))
    ∧ (¬ gone → ((∃ x : Station, code x = 3) ∨ code s.me ≠ 1) → exec .admitFrame s = .next (counted.failAttempt .check)))
  ∧ (∀ (s : State) (rest : List Delivered) (p : Station) (reason : Byte) (stamp : Tick) (a : Attempt),
    s.line.delivery = { sender := p, frame := .decline { joiner := s.me, incarnation := s.member.incarnation.getD 0, reason := reason }, stamp := stamp, own := false } :: rest →
    s.member.state = .joining → s.member.attempt = some a → a.phase = .awaiting →
    let retry : EventRecord := { kind := .joinRetry, tag := 0, subject := stationByte s.me, grant := 0, detail := 1, count := BitVec.ofNat 8 s.member.failures }
    let failed (detail : Byte) : EventRecord :=
      { kind := .joinFailed, tag := s.member.joinTag.getD 0, subject := stationByte s.me, grant := 0, detail := detail, count := BitVec.ofNat 8 s.member.failures }
    let taken : State := { s with line := { s.line with delivery := rest } }
    (reason = 1 → exec .declineFrame s = .next { taken with
      host := s.host.raise retry
      member := { s.member with
        attempt := none, joinTimer := none
        backoff := some (s.now + BitVec.ofNat 32 ((s.me.val + 1) * (16 * s.cfg.beaconPeriod.toNat))) } })
    ∧ (reason = 2 → exec .declineFrame s = .next (taken.stationClear (failed 1)))
    ∧ (reason = 3 → exec .declineFrame s = .next (taken.stationClear (failed 2)))
    ∧ (reason ≠ 1 → reason ≠ 2 → reason ≠ 3 →
      exec .declineFrame s = .next { taken with member := { s.member with attempt := some { a with accepted := a.accepted + 1 } } }))

/-- A SNAPSHOT for this station in CATCHUP from its admitter loads its part and expects the next. The part passes every check of R117 and R195: its index is the one expected and below the count; its resource is configured and its state has a code; it
continues the last resource with the same state and counter, or starts a later one, the last then having the holder that EXCLUSIVE and SHARED need; each member's term is not 0 and its mode is 0 for a holder and a mode for a waiter; over
the parts of the resource no station stands twice, no holder after a waiter, none on FREE and one at most on EXCLUSIVE; and the final part of the stream leaves the holder needed. It loads state and counter, and appends the members in the order carried. Where a
check fails the attempt fails with CHECK. A SNAP_END before every part is in, or whose digest is not that of the rebuilt table, fails it too (R118). An attempt that fails is as the statement on the join attempt timer gives it (R121).
That waiters on a FREE resource pass is the model's reading of R117, whose contradictions do not name them (log 33), as is that no check is made of R5 and R6 (log 53); that a waiter's grant-number bytes are ignored is its choice (log 51). -/
def Obligations.SnapshotPartsLoadOrFail : Prop :=
  ∀ (s : State) (rest : List Delivered) (p : Station) (f : Frame) (stamp : Tick) (a : Attempt) (ap : AdmissionPart) (b : Rebuild),
    s.line.delivery = { sender := p, frame := f, stamp := stamp, own := false } :: rest →
    s.member.state = .catchup → s.member.attempt = some a → (a.phase = .awaiting ∨ a.phase = .collecting) → a.admission = some ap → ap.admitter = p →
    s.member.snapshot = .rebuild b → s.member.snapshot.Sound →
    let taken (counted : Attempt) : State := { s with line := { s.line with delivery := rest }, member := { s.member with attempt := some counted } }
    let counted : Attempt := { a with accepted := a.accepted + 1 }
    (∀ part : SnapshotPart, f = .snapshot s.me part →
      let holders := part.members.filter (fun m => m.holder)
      let waiters := part.members.filter (fun m => !m.holder)
      let before (r : Fin 64) (st : ResourceState) : SnapEntry :=
        if b.last = some r then b.table[r] else { state := st, counter := part.counter, holders := [], waiters := [] }
      let passes (r : Fin 64) (st : ResourceState) : Prop :=
        (part.index.toNat = ap.next ∧ ap.next < ap.parts)
        ∧ (part.resource.toNat = r.val ∧ r.val < s.cfg.resourceCount ∧ part.state = BitVec.ofNat 2 st.code)
        ∧ (before r st).state = st ∧ (before r st).counter = part.counter
        ∧ (∀ q, b.last = some q → q ≠ r → q < r ∧ ((b.table[q]).state = .free ∨ (b.table[q]).holders ≠ []))
        ∧ (∀ m ∈ part.members, m.term ≠ 0 ∧ (m.holder = true → m.mode = 0) ∧ (m.holder = false → m.mode = 1 ∨ m.mode = 2))
        ∧ ((before r st).holders.map (fun h => h.station) ++ (before r st).waiters.map (fun w => w.station) ++ part.members.map (fun m => m.station)).Nodup
        ∧ (∀ earlier m later, part.members = earlier ++ m :: later → m.holder = true → (before r st).waiters = [] ∧ ∀ x ∈ earlier, x.holder = true)
        ∧ (st = .free → holders = []) ∧ (st = .exclusive → (before r st).holders.length + holders.length ≤ 1)
        ∧ (part.index.toNat + 1 = ap.parts → st = .free ∨ (before r st).holders ≠ [] ∨ holders ≠ [])
      (∀ r st, passes r st → exec .snapshotFrame s = .next { s with
        line := { s.line with delivery := rest }
        member := { s.member with
          attempt := some { counted with admission := some { ap with next := ap.next + 1 } }
          snapshot := .rebuild
            { last := some r
              table := b.table.set r
                { state := st
                  counter := part.counter
                  holders := (before r st).holders ++ holders.map (fun m => { station := m.station, grant := m.grant, remaining := m.term })
                  waiters := (before r st).waiters
                    ++ waiters.map (fun m => { station := m.station, mode := if m.mode = 1 then .exclusive else .shared, term := m.term }) } } } })
      ∧ ((∀ r st, ¬ passes r st) → exec .snapshotFrame s = .next ((taken counted).failAttempt .check)))
    ∧ (∀ digest : Word16, f = .snapEnd s.me digest →
      (ap.next ≠ ap.parts ∨ digestOf s.cfg.resourceCount (b.table.toList.map SnapEntry.toEntry) ≠ digest) →
      exec .snapEndFrame s = .next ((taken a).failAttempt .check))

/-- R119: a SNAP_END that passes its checks loads the replica from the Snapshot Buffer: each holder with its remaining term as term and, as replica deadline, the APPLY's stamp plus that term plus the guard; entry counts and free pool entries as the table gives them, also against R5 or R6 (the model's reading, log 53); the capture sequence number plus the
accepted count plus 1. The Catch-up Queue is replayed in order. Then this station's entry and the station become ONLINE, the presence deadlines of its peers start (R87), attempt and admission end, and JOINED is placed for the JOIN tag with the incarnation
and the ONLINE peer count. The SNAP_END is heard from its sender (R86; the model's reading, log 32), for whom no DEPART of this station is out, as none can be in CATCHUP; no entry is MARKED then.
A replayed frame has the effect it has at a live replica, with its stored stamp, but the sequence number stands and no PEER_LEFT is placed (R119, R81): no slot of a joiner is in use, so nothing else reaches the host. -/
def Obligations.SnapEndCompletesTheJoin : Prop :=
  (∀ (s : State) (rest : List Delivered) (p : Station) (digest : Word16) (stamp : Tick) (a : Attempt) (ap : AdmissionPart) (b : Rebuild),
    s.line.delivery = { sender := p, frame := .snapEnd s.me digest, stamp := stamp, own := false } :: rest →
    s.member.state = .catchup → s.member.attempt = some a → (a.phase = .awaiting ∨ a.phase = .collecting) → a.admission = some ap → ap.admitter = p →
    s.member.snapshot = .rebuild b → ap.next = ap.parts → b.lastComplete = true →
    digestOf s.cfg.resourceCount (b.table.toList.map SnapEntry.toEntry) = digest →
    let entry (e : SnapEntry) : ResourceEntry :=
      { state := e.state, counter := e.counter, waiters := e.waiters, holders := e.holders.map (fun h =>
        let deadline := a.stamp + BitVec.ofNat 32 (64 * (h.remaining.toNat + s.cfg.guard.toNat))
        { station := h.station, grant := h.grant, term := h.remaining, deadline := deadline
          revocation := if h.station = s.me then none else if 0 ≤ (s.now - deadline).toInt then some .marked else some .watching }) }
    let entries := (List.finRange 64).map (fun r => entry b.table[r])
    let loaded : Replica :=
      { live := true
        table := b.table.map entry
        poolFree := 128 - (entries.map (fun e => e.waiters.length)).sum
        counts := Vector.ofFn (fun x : Station =>
          (entries.map (fun e => (e.holders.filter (fun h => h.station == x)).length + (e.waiters.filter (fun w => w.station == x)).length)).sum)
        seq := ap.capture + a.accepted + 1
        stale := s.replica.stale }
    let t : State := a.catchup.foldl (fun x d => x.applyLive d true) { s with line := { s.line with delivery := rest }, replica := loaded }
    t.replica.marked = [] → (t.member.roster[p]).departQueued = false →
    let peers := ((List.finRange 16).filter (fun x => x ≠ t.me ∧ (t.member.roster[x]).state = .online)).length
    let joined : EventRecord :=
      { kind := .joined, tag := t.member.joinTag.getD 0, subject := stationByte t.me, grant := t.member.incarnation.getD 0, detail := 0, count := BitVec.ofNat 8 peers }
    exec .snapEndFrame s = .next { t with
      host := t.host.raise joined
      member := { t.member with
        state := .online, attempt := none, admission := none, joinTimer := none, foundingPeriod := none, snapshot := .empty, joinTag := none, failures := 0
        roster := Vector.ofFn (fun x : Station =>
          let e := t.member.roster[x]
          let e := if x = p ∧ e.state ≠ .absent then { e with lastHeard := some stamp } else e
          if x = t.me then { t.member.roster[x] with state := .online }
          else if e.state ≠ .absent ∧ e.departQueued = false then
            { e with presence := some (t.now + BitVec.ofNat 32 (64 * (t.cfg.misses.toNat * t.cfg.beaconPeriod.toNat))) }
          else e) } })
  ∧ (∀ (s : State) (d : Delivered), (∀ i : Fin 8, (s.claims[i]).state = .empty) → d.own = false →
    (d.frame.kind = .claim ∨ d.frame.kind = .drop ∨ d.frame.kind = .extend ∨ d.frame.kind = .withdraw ∨ d.frame.kind = .revoke ∨ d.frame.kind = .quit
      ∨ d.frame.kind = .depart ∨ d.frame.kind = .found ∨ d.frame.kind = .apply) →
    let live := s.applyLive d false
    s.applyLive d true = { live with host := s.host, replica := { live.replica with seq := s.replica.seq } })
  ∧ ∀ (s : State) (d : Delivered) (rest : List Delivered), s.HandedToMember d rest → d.frame ≠ .depart s.me →
    exec d.frame.kind.handing s = .next ({ s with line := { s.line with delivery := rest } }.applyLive d false)

/-- R111 at a live roster: an ADMIT, SNAPSHOT or SNAP_END that matches the open admission renews its sender's presence (R86); the SNAP_END also completes the admission: the record is CLOSED, the joiner ONLINE, and PEER_JOINED is raised
with the ONLINE peer count (R92). A DECLINE renews its sender's presence and changes nothing else.
Stated for departure state NONE; that a DEPART of this station for the sender would then stay queued is the model's reading of R89 against R86 (log 50). -/
def Obligations.StreamFramesCompleteTheAdmission : Prop :=
  ∀ (s : State) (rest : List Delivered) (p j : Station) (f : Frame) (stamp : Tick) (adm : Admission),
    s.HandedByPeer { sender := p, frame := f, stamp := stamp, own := false } rest → p ≠ s.me → j ≠ s.me → p ≠ j →
    s.member.admission = some adm → adm.admitter = p → adm.joiner = j →
    (s.member.roster[p]).state = .online → (s.member.roster[p]).departQueued = false → (s.member.roster[j]).state = .joining →
    let heard : RosterEntry := { s.member.roster[p] with
      lastHeard := some stamp, presence := some (stamp + BitVec.ofNat 32 (64 * (s.cfg.misses.toNat * s.cfg.beaconPeriod.toNat))) }
    let handed : State := { s with line := { s.line with delivery := rest }, replica := { s.replica with seq := s.replica.seq + 1 } }
    ((f.kind = .decline ∨ (∃ capture parts states, f = .admitJoiner j adm.incarnation capture parts states) ∨ ∃ part, f = .snapshot j part) →
      exec f.kind.handing s = .next { handed with member := { s.member with roster := s.member.roster.set p heard } })
    ∧ (∀ digest, f = .snapEnd j digest →
      let online := ((List.finRange 16).filter (fun x => x ≠ s.me ∧ (x = j ∨ (s.member.roster[x]).state = .online))).length
      let told : EventRecord := { kind := .peerJoined, tag := 0, subject := BitVec.ofNat 8 j.val, grant := 0, detail := 0, count := BitVec.ofNat 8 online }
      exec .snapEndFrame s = .next { handed with
        host := s.host.answer told
        member := { s.member with
          admission := none
          roster := (s.member.roster.set p heard).set j { s.member.roster[j] with state := .online } } })

/-- R85 with R66 to R68, R86, R94, R95: a BEACON of an ONLINE peer at an ONLINE station. If its number follows the recorded one it gives a sample, which counts as an outlier or goes to the round accumulator (R69); record, reported states, last-heard
stamp and presence deadline are replaced; where the sender reports FOUNDING or ONLINE the digests are compared, and a difference raises DIVERGENCE once until they agree again.
Stated for departure state NONE; that a DEPART of this station for the peer would then stay queued is the model's reading of R89 against R86 (log 50). -/
def Obligations.BeaconSamplesRecordsAndCompares : Prop :=
  ∀ (s : State) (rest : List Delivered) (p : Station) (b : BeaconBody) (stamp : Tick),
    s.HandedByPeer { sender := p, frame := .beacon b, stamp := stamp, own := false } rest → p ≠ s.me →
    let e := s.member.roster[p]
    e.state = .online → e.departQueued = false →
    let sample : Option (Tick × Tick) := match e.beacon with
      | some old => if old.number + 1 = b.number then some (stamp - old.received, b.stamp - old.carried) else none
      | none => none
    let isOutlier (l sd : Tick) : Prop := sd.toNat = 0 ∨ 2 ^ 31 ≤ sd.toNat ∨ sd.toNat < 250 * ((l.toNat : Int) - sd.toNat).natAbs
    let compares := b.stationState = 3 ∨ b.stationState = 6
    let differs := b.digest ≠ s.digest
    let told : EventRecord := { kind := .divergence, tag := 0, subject := BitVec.ofNat 8 p.val, grant := b.digest, detail := 0, count := b.number }
    exec .beaconFrame s = .next { s with
      line := { s.line with delivery := rest }
      host := if compares ∧ differs ∧ e.divergence = false then s.host.answer told else s.host
      timebase := match sample with
        | some (l, sd) =>
          if isOutlier l sd ∨ 255 ≤ s.timebase.count then s.timebase
          else { s.timebase with sum := s.timebase.sum + (((l.toNat : Int) - sd.toNat) * 65536 * 256).tdiv sd.toNat, count := s.timebase.count + 1 }
        | none => s.timebase
      member := { s.member with roster := s.member.roster.set p { e with
        beacon := some { number := b.number, carried := b.stamp, received := stamp }
        reportedState := if b.stationState = 3 then some .founding else if b.stationState = 4 then some .joining else if b.stationState = 5 then some .catchup
          else if b.stationState = 6 then some .online else none
        reportedTimebase := if b.timebaseState = 0 then some .free else if b.timebaseState = 1 then some .tracking else if b.timebaseState = 2 then some .locked else none
        outliers := match sample with
          | some (l, sd) => if isOutlier l sd then min (e.outliers + 1) 255 else e.outliers
          | none => e.outliers
        lastHeard := some stamp
        presence := some (stamp + BitVec.ofNat 32 (64 * (s.cfg.misses.toNat * s.cfg.beaconPeriod.toNat)))
        divergence := if compares then decide differs else e.divergence } }
      replica := { s.replica with seq := s.replica.seq + 1 } }

/-- Where no replica is live: in UNCONFIGURED and OFFLINE a frame of another station is discarded (R159); a joiner whose attempt runs stores every lease frame, FOUND and APPLY with its stamp and counts it, the 49th failing the attempt
with CATCHUP_FULL (R114). That a joiner stores a FOUND, which R103 says is ignored, is the model's reading of R114 (log 37). -/
def Obligations.FramesWithoutALiveReplica : Prop :=
  ∀ (s : State) (rest : List Delivered) (d : Delivered),
    s.line.delivery = d :: rest → d.own = false →
    ((s.member.state = .unconfigured ∨ s.member.state = .offline) → exec d.frame.kind.handing s = .next { s with line := { s.line with delivery := rest } })
    ∧ (∀ a : Attempt, (s.member.state = .joining ∨ s.member.state = .catchup) → s.member.attempt = some a → (a.phase = .awaiting ∨ a.phase = .collecting) →
      (d.frame.kind = .claim ∨ d.frame.kind = .drop ∨ d.frame.kind = .extend ∨ d.frame.kind = .withdraw ∨ d.frame.kind = .revoke ∨ d.frame.kind = .found
        ∨ d.frame.kind = .apply) →
      let counted : Attempt := { a with accepted := a.accepted + 1 }
      (a.catchup.length < 48 → exec d.frame.kind.handing s = .next { s with
        line := { s.line with delivery := rest }
        member := { s.member with attempt := some { counted with catchup := a.catchup ++ [d] } } })
      ∧ (48 ≤ a.catchup.length → exec d.frame.kind.handing s = .next
        ({ s with line := { s.line with delivery := rest }, member := { s.member with attempt := some counted } }.failAttempt .catchupFull)))

/-! ## Expiries -/

/-- R23: when a watched holder entry's replica deadline is reached, it becomes QUEUED with a REVOKE of its holding queued, where the station is ONLINE and the insertion finds room, and MARKED otherwise.
R88: when the presence deadline of a peer is reached at an ONLINE station, DEPART for it is queued, its departure state becomes QUEUED and the deadline is removed; with a DEPART already out, the deadline is only removed. -/
def Obligations.PeerDeadlinesProposeItsEnd : Prop :=
  (∀ (s : State) (r : Fin 64) (p : Station) (h : Holder),
    let e := s.replica.table[r]
    e.holders.find? (fun x => x.station == p) = some h → h.revocation = some .watching → 0 ≤ (s.now - h.deadline).toInt →
    let ins := s.tx.insert (.revoke (BitVec.ofNat 8 r.val) p h.grant)
    let settled (v : RevocationState) : Replica := { s.replica with
      table := s.replica.table.set r { e with holders := e.holders.map (fun x => if x.station = p then { x with revocation := some v } else x) } }
    exec (.replicaDeadline r p) s = .next (if s.member.state = .online ∧ ins.1 = true then { s with tx := ins.2, replica := settled .queued }
      else { s with replica := settled .marked }))
  ∧ (∀ (s : State) (p : Station) (d : Tick),
    let e := s.member.roster[p]
    s.member.state = .online → e.presence = some d → 0 ≤ (s.now - d).toInt →
    exec (.presenceDeadline p) s = .next (if e.departQueued = true
      then { s with member := { s.member with roster := s.member.roster.set p { e with presence := none } } }
      else { s with
        tx := (s.tx.insert (.depart p)).2
        member := { s.member with roster := s.member.roster.set p { e with presence := none, departQueued := true } } }))

/-- R43, R48: when a slot's self-expiry deadline is reached in HELD, LOST is placed with detail LAPSED, its DROP is queued and it becomes LAPSED; in RENEWING, LOST and then RENEW_LATE are placed, and the DROP is queued at once where the
EXTEND could be removed, and otherwise follows it. In RELEASING, WITHDRAWING, LAPSED and ENDING it has no effect.
That the EXTEND counts as removed where the withdrawal is answered NOT_FOUND is the model's reading of R135 (log 18). -/
def Obligations.SelfExpiryLapsesTheLease : Prop :=
  ∀ (s : State) (i : Fin 8) (d : Tick) (g : Word16),
    let sl := s.claims[i]
    sl.deadline = some d → 0 ≤ (s.now - d).toInt → sl.grant = some g →
    let event (k : EventKind) (tag : Byte) : EventRecord := { kind := k, tag := tag, subject := sl.resource, grant := g, detail := 1, count := 0 }
    let drop : Option FrameMarker := some { kind := .drop, withdrawn := false, dropFollows := false }
    (sl.state = .held → exec (.selfExpiry i) s = .next { s with
      host := s.host.raise (event .lost sl.tag)
      tx := (s.tx.insert (.drop sl.resource g)).2
      claims := s.claims.set i { sl with state := .lapsed, marker := drop } })
    ∧ (∀ tag, sl.state = .renewing → sl.command = some (.renew, tag) → sl.marker = some { kind := .extend, withdrawn := false, dropFollows := false } →
      let asked := s.tx.withdraw (.extend sl.resource)
      let told := (s.host.raise (event .lost sl.tag)).raise (event .renewLate tag)
      (asked.1 = .onLine → exec (.selfExpiry i) s = .next { s with
        host := told
        tx := asked.2
        claims := s.claims.set i { sl with state := .lapsed, command := none, marker := some { kind := .extend, withdrawn := true, dropFollows := true } } })
      ∧ (asked.1 ≠ .onLine → exec (.selfExpiry i) s = .next { s with
        host := told
        tx := (asked.2.insert (.drop sl.resource g)).2
        claims := s.claims.set i { sl with state := .lapsed, command := none, marker := drop } }))
    ∧ ((sl.state = .releasing ∨ sl.state = .withdrawing ∨ sl.state = .lapsed ∨ sl.state = .ending) → exec (.selfExpiry i) s = .next s)

/-- R83, R82: a firing of the beacon schedule advances the beacon counter and sets the next deadline one beacon period on. With no BEACON in the Transmit Queue one is queued with the new counter value; a queued one takes the new number and digest in
its place; one in flight gets a return notice and the firing stays pending. -/
def Obligations.BeaconScheduleQueuesOrRefreshes : Prop :=
  ∀ (s : State) (d : Tick),
    s.member.beaconDeadline = some d → 0 ≤ (s.now - d).toInt →
    let number := s.member.beaconCounter + 1
    let fired : Membership := { s.member with beaconCounter := number, beaconDeadline := some (d + BitVec.ofNat 32 (64 * s.cfg.beaconPeriod.toNat)) }
    let fresh : Frame := .beacon { number := number, stamp := 0, stationState := 0, timebaseState := 0, digest := s.digest, profile := s.cfg.profile }
    ((∀ x ∈ s.tx.entries, x.orphan = false → x.frame.id ≠ .beacon) → exec .beaconSchedule s = .next { s with member := fired, tx := (s.tx.insert fresh).2 })
    ∧ (∀ (before after : List TxEntry) (x : TxEntry) (b : BeaconBody), s.tx.entries = before ++ x :: after → x.frame = .beacon b → x.orphan = false →
      (∀ y ∈ before ++ after, y.orphan = false → y.frame.id ≠ .beacon) →
      (x.inFlight = false → exec .beaconSchedule s = .next { s with
        member := fired
        tx := { s.tx with entries := before ++ { x with frame := .beacon { b with number := number, digest := s.digest } } :: after } })
      ∧ (x.inFlight = true → exec .beaconSchedule s = .next { s with
        member := { fired with beaconPending := true }
        tx := { s.tx with entries := before ++ { x with returnNotice := !x.withdrawn } :: after } }))

/-- R102: the listen window, reached in LISTEN, queues FOUND. R120, R121: the join attempt timer fails the attempt with TIMEOUT: the attempt is CLOSING, the failure counted up to 8, everything loaded discarded and a QUIT queued. The stamp, count and
queue of a CLOSING record, 0 and empty, and the reason it keeps are the model's choice (log 39). R123: the
backoff, reached in JOINING, draws a new incarnation and queues APPLY. Each is stated with no own membership frame out.
R105: when the founding period deadline is reached in FOUNDING without the abandoning mark, the station becomes ONLINE: presence deadlines start for its peers, JOINED is placed for the JOIN tag with the incarnation and the ONLINE peer count, the tag is cleared and the
counted failures are 0. Stated with no entry MARKED for revocation. -/
def Obligations.JoinTimersQueueFramesOrEndFounding : Prop :=
  (∀ (s : State) (d : Tick), 0 ≤ (s.now - d).toInt → s.member.own = none →
    let queued (k : OwnKind) : Option OwnFrame := some { kind := k, withdrawn := false, next := none }
    let n := s.member.incarnationCounter
    let drawn : Word16 := if s.member.incarnation = some n then n + 1 else n
    (s.member.state = .listen → s.member.listenWindow = some d → exec .listenWindow s = .next { s with
      tx := (s.tx.insert (.found (s.member.incarnation.getD 0) s.cfg.profile)).2
      member := { s.member with listenWindow := none, own := queued .found } })
    ∧ (∀ a, (s.member.state = .joining ∨ s.member.state = .catchup) → s.member.joinTimer = some d → s.member.attempt = some a →
      (a.phase = .awaiting ∨ a.phase = .collecting) → exec .joinAttemptTimer s = .next { s with
        tx := (s.tx.insert .quit).2
        member := { s.member with
          state := .joining, failures := min (s.member.failures + 1) 8, joinTimer := none, own := queued .quit, snapshot := .empty, admission := none, rosterLive := false
          attempt := some { stamp := 0, accepted := 0, catchup := [], admission := none, phase := .closing .timeout }
          roster := s.member.roster.map (fun e => { RosterEntry.clear with incarnation := e.incarnation }) } })
    ∧ (s.member.state = .joining → s.member.backoff = some d → exec .joinBackoff s = .next { s with
      tx := (s.tx.insert (.apply drawn s.cfg.profile)).2
      member := { s.member with backoff := none, incarnation := some drawn, own := queued .apply } }))
  ∧ (∀ (s : State) (d : Tick),
    s.member.state = .founding → s.member.abandoning = false → s.member.foundingPeriod = some d → 0 ≤ (s.now - d).toInt → s.replica.marked = [] →
    let peers := ((List.finRange 16).filter (fun x => x ≠ s.me ∧ (s.member.roster[x]).state = .online)).length
    let joined : EventRecord :=
      { kind := .joined, tag := s.member.joinTag.getD 0, subject := stationByte s.me, grant := s.member.incarnation.getD 0, detail := 0, count := BitVec.ofNat 8 peers }
    exec .foundingPeriod s = .next { s with
      host := s.host.raise joined
      member := { s.member with
        state := .online, foundingPeriod := none, joinTag := none, failures := 0
        roster := Vector.ofFn (fun x : Station =>
          let e := s.member.roster[x]
          if x ≠ s.me ∧ e.state ≠ .absent ∧ e.departQueued = false then
            { e with presence := some (s.now + BitVec.ofNat 32 (64 * (s.cfg.misses.toNat * s.cfg.beaconPeriod.toNat))) }
          else e) } })

/-- R71, R72: at a round end with samples the mean error, rounded toward zero, limited to 16 steps either way, corrects the trim, clamped to -512 to +511; without samples the trim stays. The state follows R72's table with the mean before it was limited, the next round ends 8
beacon periods after the deadline reached (R70), and TIMEBASE is in the Event Queue in the same event where the state enters or leaves LOCKED (R73).
A round that ends in another state than ONLINE ends with no samples, whatever the accumulator still holds from ONLINE, and so in FREE (R70, R72). -/
def Obligations.RoundEndCorrectsTheTrim : Prop :=
  ∀ (s : State) (d : Tick), s.timebase.roundDeadline = some d → 0 ≤ (s.now - d).toInt →
    let t := s.timebase
    let n := if s.member.state = .online then t.count else 0
    let mean : Int := t.sum.tdiv (256 * n)
    let trim : Int := if n = 0 then t.trim else max (-512) (min 511 (t.trim + max (-16) (min 16 mean)))
    let quiet : Prop := n ≠ 0 ∧ -2 ≤ mean ∧ mean ≤ 2
    let st : TimebaseState :=
      if n = 0 then .free
      else if quiet ∧ t.quiet = true then .locked
      else if mean < -8 ∨ 8 < mean then .tracking
      else if t.state = .free then .tracking else t.state
    let told : EventRecord :=
      { kind := .timebase, tag := 0, subject := stationByte s.me, grant := BitVec.ofInt 16 trim, detail := BitVec.ofNat 8 st.code, count := BitVec.ofNat 8 n }
    exec .roundEnd s = .next { s with
      host := if (t.state = .locked) ↔ (st = .locked) then s.host else s.host.answer told
      timebase := { t with
        trim := trim, sum := 0, count := 0, quiet := decide quiet, state := st
        roundDeadline := some (d + BitVec.ofNat 32 (512 * s.cfg.beaconPeriod.toNat)) } }

/-- R62: a deadline that is not reached does not expire: an expiry command whose deadline lies ahead, or is absent, changes nothing (the model's form of an expiry that cannot occur yet, log 1, log 4). -/
def Obligations.UnreachedDeadlinesDoNotExpire : Prop :=
  ∀ s : State,
    let ahead (d : Option Tick) : Prop := ∀ x, d = some x → (s.now - x).toInt < 0
    (∀ (r : Fin 64) (p : Station), (∀ h ∈ (s.replica.table[r]).holders, h.station = p → (s.now - h.deadline).toInt < 0) → exec (.replicaDeadline r p) s = .next s)
    ∧ (∀ i : Fin 8, ahead (s.claims[i]).deadline → exec (.selfExpiry i) s = .next s)
    ∧ (∀ p : Station, ahead (s.member.roster[p]).presence → exec (.presenceDeadline p) s = .next s)
    ∧ (ahead s.member.beaconDeadline → exec .beaconSchedule s = .next s)
    ∧ (ahead s.member.listenWindow → exec .listenWindow s = .next s)
    ∧ (ahead s.member.foundingPeriod → exec .foundingPeriod s = .next s)
    ∧ (ahead s.member.joinTimer → exec .joinAttemptTimer s = .next s)
    ∧ (ahead s.member.backoff → exec .joinBackoff s = .next s)
    ∧ (ahead s.timebase.roundDeadline → exec .roundEnd s = .next s)
end

