-- ==== Sys2Proof/Laws/State.lean ====
section
/-! SUPPORT. One lemma per field for each named update of the state, true by rfl, so that no proof unfolds a record update. -/

namespace Sys2Proof.Machine

/-! ### place -/
@[simp] theorem State.place_pending (s : State) (e : EventRecord) : (s.place e).pending = s.pending := rfl
@[simp] theorem State.place_line (s : State) (e : EventRecord) : (s.place e).line = s.line := rfl
@[simp] theorem State.place_tx (s : State) (e : EventRecord) : (s.place e).tx = s.tx := rfl
@[simp] theorem State.place_replica (s : State) (e : EventRecord) : (s.place e).replica = s.replica := rfl
@[simp] theorem State.place_claims (s : State) (e : EventRecord) : (s.place e).claims = s.claims := rfl
@[simp] theorem State.place_member (s : State) (e : EventRecord) : (s.place e).member = s.member := rfl
@[simp] theorem State.place_timebase (s : State) (e : EventRecord) : (s.place e).timebase = s.timebase := rfl
@[simp] theorem State.place_config (s : State) (e : EventRecord) : (s.place e).config = s.config := rfl
@[simp] theorem State.place_host (s : State) (e : EventRecord) : (s.place e).host = s.host.raise e := rfl

/-! ### placeAtOnce -/
@[simp] theorem State.placeAtOnce_pending (s : State) (e : EventRecord) : (s.placeAtOnce e).pending = s.pending := rfl
@[simp] theorem State.placeAtOnce_line (s : State) (e : EventRecord) : (s.placeAtOnce e).line = s.line := rfl
@[simp] theorem State.placeAtOnce_tx (s : State) (e : EventRecord) : (s.placeAtOnce e).tx = s.tx := rfl
@[simp] theorem State.placeAtOnce_replica (s : State) (e : EventRecord) : (s.placeAtOnce e).replica = s.replica := rfl
@[simp] theorem State.placeAtOnce_claims (s : State) (e : EventRecord) : (s.placeAtOnce e).claims = s.claims := rfl
@[simp] theorem State.placeAtOnce_member (s : State) (e : EventRecord) : (s.placeAtOnce e).member = s.member := rfl
@[simp] theorem State.placeAtOnce_timebase (s : State) (e : EventRecord) : (s.placeAtOnce e).timebase = s.timebase := rfl
@[simp] theorem State.placeAtOnce_config (s : State) (e : EventRecord) : (s.placeAtOnce e).config = s.config := rfl
@[simp] theorem State.placeAtOnce_host (s : State) (e : EventRecord) : (s.placeAtOnce e).host = s.host.answer e := rfl

/-! ### setPeer -/
@[simp] theorem State.setPeer_pending (s : State) (p : Station) (e : RosterEntry) : (s.setPeer p e).pending = s.pending := rfl
@[simp] theorem State.setPeer_line (s : State) (p : Station) (e : RosterEntry) : (s.setPeer p e).line = s.line := rfl
@[simp] theorem State.setPeer_tx (s : State) (p : Station) (e : RosterEntry) : (s.setPeer p e).tx = s.tx := rfl
@[simp] theorem State.setPeer_replica (s : State) (p : Station) (e : RosterEntry) : (s.setPeer p e).replica = s.replica := rfl
@[simp] theorem State.setPeer_claims (s : State) (p : Station) (e : RosterEntry) : (s.setPeer p e).claims = s.claims := rfl
@[simp] theorem State.setPeer_member (s : State) (p : Station) (e : RosterEntry) : (s.setPeer p e).member = { s.member with roster := s.member.roster.set p e } := rfl
@[simp] theorem State.setPeer_timebase (s : State) (p : Station) (e : RosterEntry) : (s.setPeer p e).timebase = s.timebase := rfl
@[simp] theorem State.setPeer_config (s : State) (p : Station) (e : RosterEntry) : (s.setPeer p e).config = s.config := rfl
@[simp] theorem State.setPeer_host (s : State) (p : Station) (e : RosterEntry) : (s.setPeer p e).host = s.host := rfl

/-! ### setSlot -/
@[simp] theorem State.setSlot_pending (s : State) (i : Fin 8) (sl : Slot) : (s.setSlot i sl).pending = s.pending := rfl
@[simp] theorem State.setSlot_line (s : State) (i : Fin 8) (sl : Slot) : (s.setSlot i sl).line = s.line := rfl
@[simp] theorem State.setSlot_tx (s : State) (i : Fin 8) (sl : Slot) : (s.setSlot i sl).tx = s.tx := rfl
@[simp] theorem State.setSlot_replica (s : State) (i : Fin 8) (sl : Slot) : (s.setSlot i sl).replica = s.replica := rfl
@[simp] theorem State.setSlot_claims (s : State) (i : Fin 8) (sl : Slot) : (s.setSlot i sl).claims = s.claims.set i sl := rfl
@[simp] theorem State.setSlot_member (s : State) (i : Fin 8) (sl : Slot) : (s.setSlot i sl).member = s.member := rfl
@[simp] theorem State.setSlot_timebase (s : State) (i : Fin 8) (sl : Slot) : (s.setSlot i sl).timebase = s.timebase := rfl
@[simp] theorem State.setSlot_config (s : State) (i : Fin 8) (sl : Slot) : (s.setSlot i sl).config = s.config := rfl
@[simp] theorem State.setSlot_host (s : State) (i : Fin 8) (sl : Slot) : (s.setSlot i sl).host = s.host := rfl

/-! ### queueFrame -/
@[simp] theorem State.queueFrame_pending (s : State) (f : Frame) : (s.queueFrame f).pending = s.pending := rfl
@[simp] theorem State.queueFrame_line (s : State) (f : Frame) : (s.queueFrame f).line = s.line := rfl
@[simp] theorem State.queueFrame_tx (s : State) (f : Frame) : (s.queueFrame f).tx = (s.tx.insert f).2 := rfl
@[simp] theorem State.queueFrame_replica (s : State) (f : Frame) : (s.queueFrame f).replica = s.replica := rfl
@[simp] theorem State.queueFrame_claims (s : State) (f : Frame) : (s.queueFrame f).claims = s.claims := rfl
@[simp] theorem State.queueFrame_member (s : State) (f : Frame) : (s.queueFrame f).member = s.member := rfl
@[simp] theorem State.queueFrame_timebase (s : State) (f : Frame) : (s.queueFrame f).timebase = s.timebase := rfl
@[simp] theorem State.queueFrame_config (s : State) (f : Frame) : (s.queueFrame f).config = s.config := rfl
@[simp] theorem State.queueFrame_host (s : State) (f : Frame) : (s.queueFrame f).host = s.host := rfl

/-! ### withdrawFrame -/
@[simp] theorem State.withdrawFrame_pending (s : State) (id : FrameId) : ((s.withdrawFrame id).2).pending = s.pending := rfl
@[simp] theorem State.withdrawFrame_line (s : State) (id : FrameId) : ((s.withdrawFrame id).2).line = s.line := rfl
@[simp] theorem State.withdrawFrame_tx (s : State) (id : FrameId) : ((s.withdrawFrame id).2).tx = (s.tx.withdraw id).2 := rfl
@[simp] theorem State.withdrawFrame_replica (s : State) (id : FrameId) : ((s.withdrawFrame id).2).replica = s.replica := rfl
@[simp] theorem State.withdrawFrame_claims (s : State) (id : FrameId) : ((s.withdrawFrame id).2).claims = s.claims := rfl
@[simp] theorem State.withdrawFrame_member (s : State) (id : FrameId) : ((s.withdrawFrame id).2).member = s.member := rfl
@[simp] theorem State.withdrawFrame_timebase (s : State) (id : FrameId) : ((s.withdrawFrame id).2).timebase = s.timebase := rfl
@[simp] theorem State.withdrawFrame_config (s : State) (id : FrameId) : ((s.withdrawFrame id).2).config = s.config := rfl
@[simp] theorem State.withdrawFrame_host (s : State) (id : FrameId) : ((s.withdrawFrame id).2).host = s.host := rfl

/-! ### setAttempt -/
@[simp] theorem State.setAttempt_pending (s : State) (a : Attempt) : (s.setAttempt a).pending = s.pending := rfl
@[simp] theorem State.setAttempt_line (s : State) (a : Attempt) : (s.setAttempt a).line = s.line := rfl
@[simp] theorem State.setAttempt_tx (s : State) (a : Attempt) : (s.setAttempt a).tx = s.tx := rfl
@[simp] theorem State.setAttempt_replica (s : State) (a : Attempt) : (s.setAttempt a).replica = s.replica := rfl
@[simp] theorem State.setAttempt_claims (s : State) (a : Attempt) : (s.setAttempt a).claims = s.claims := rfl
@[simp] theorem State.setAttempt_member (s : State) (a : Attempt) : (s.setAttempt a).member = { s.member with attempt := some a } := rfl
@[simp] theorem State.setAttempt_timebase (s : State) (a : Attempt) : (s.setAttempt a).timebase = s.timebase := rfl
@[simp] theorem State.setAttempt_config (s : State) (a : Attempt) : (s.setAttempt a).config = s.config := rfl
@[simp] theorem State.setAttempt_host (s : State) (a : Attempt) : (s.setAttempt a).host = s.host := rfl

/-! ### countStale -/
@[simp] theorem State.countStale_pending (s : State) : (s.countStale).pending = s.pending := rfl
@[simp] theorem State.countStale_line (s : State) : (s.countStale).line = s.line := rfl
@[simp] theorem State.countStale_tx (s : State) : (s.countStale).tx = s.tx := rfl
@[simp] theorem State.countStale_replica (s : State) : (s.countStale).replica = s.replica.countStale := rfl
@[simp] theorem State.countStale_claims (s : State) : (s.countStale).claims = s.claims := rfl
@[simp] theorem State.countStale_member (s : State) : (s.countStale).member = s.member := rfl
@[simp] theorem State.countStale_timebase (s : State) : (s.countStale).timebase = s.timebase := rfl
@[simp] theorem State.countStale_config (s : State) : (s.countStale).config = s.config := rfl
@[simp] theorem State.countStale_host (s : State) : (s.countStale).host = s.host := rfl

/-! ### clearPresence -/
@[simp] theorem State.clearPresence_pending (s : State) : (s.clearPresence).pending = s.pending := rfl
@[simp] theorem State.clearPresence_line (s : State) : (s.clearPresence).line = s.line := rfl
@[simp] theorem State.clearPresence_tx (s : State) : (s.clearPresence).tx = s.tx := rfl
@[simp] theorem State.clearPresence_replica (s : State) : (s.clearPresence).replica = s.replica := rfl
@[simp] theorem State.clearPresence_claims (s : State) : (s.clearPresence).claims = s.claims := rfl
@[simp] theorem State.clearPresence_member (s : State) : (s.clearPresence).member = { s.member with roster := s.member.roster.map (fun e => { e with presence := none }) } := rfl
@[simp] theorem State.clearPresence_timebase (s : State) : (s.clearPresence).timebase = s.timebase := rfl
@[simp] theorem State.clearPresence_config (s : State) : (s.clearPresence).config = s.config := rfl
@[simp] theorem State.clearPresence_host (s : State) : (s.clearPresence).host = s.host := rfl

/-! ### dropCommand -/
@[simp] theorem State.dropCommand_pending (s : State) : (s.dropCommand).pending = s.pending := rfl
@[simp] theorem State.dropCommand_line (s : State) : (s.dropCommand).line = s.line := rfl
@[simp] theorem State.dropCommand_tx (s : State) : (s.dropCommand).tx = s.tx := rfl
@[simp] theorem State.dropCommand_replica (s : State) : (s.dropCommand).replica = s.replica := rfl
@[simp] theorem State.dropCommand_claims (s : State) : (s.dropCommand).claims = s.claims := rfl
@[simp] theorem State.dropCommand_member (s : State) : (s.dropCommand).member = s.member := rfl
@[simp] theorem State.dropCommand_timebase (s : State) : (s.dropCommand).timebase = s.timebase := rfl
@[simp] theorem State.dropCommand_config (s : State) : (s.dropCommand).config = s.config := rfl
@[simp] theorem State.dropCommand_host (s : State) : (s.dropCommand).host = { s.host with commands := s.host.commands.tail } := rfl

/-! ### dropDelivery -/
@[simp] theorem State.dropDelivery_pending (s : State) : (s.dropDelivery).pending = s.pending := rfl
@[simp] theorem State.dropDelivery_line (s : State) : (s.dropDelivery).line = { s.line with delivery := s.line.delivery.tail } := rfl
@[simp] theorem State.dropDelivery_tx (s : State) : (s.dropDelivery).tx = s.tx := rfl
@[simp] theorem State.dropDelivery_replica (s : State) : (s.dropDelivery).replica = s.replica := rfl
@[simp] theorem State.dropDelivery_claims (s : State) : (s.dropDelivery).claims = s.claims := rfl
@[simp] theorem State.dropDelivery_member (s : State) : (s.dropDelivery).member = s.member := rfl
@[simp] theorem State.dropDelivery_timebase (s : State) : (s.dropDelivery).timebase = s.timebase := rfl
@[simp] theorem State.dropDelivery_config (s : State) : (s.dropDelivery).config = s.config := rfl
@[simp] theorem State.dropDelivery_host (s : State) : (s.dropDelivery).host = s.host := rfl

/-! ### setTransaction -/
@[simp] theorem State.setTransaction_pending (s : State) (t : Option Transaction) : (s.setTransaction t).pending = s.pending := rfl
@[simp] theorem State.setTransaction_line (s : State) (t : Option Transaction) : (s.setTransaction t).line = s.line := rfl
@[simp] theorem State.setTransaction_tx (s : State) (t : Option Transaction) : (s.setTransaction t).tx = s.tx := rfl
@[simp] theorem State.setTransaction_replica (s : State) (t : Option Transaction) : (s.setTransaction t).replica = s.replica := rfl
@[simp] theorem State.setTransaction_claims (s : State) (t : Option Transaction) : (s.setTransaction t).claims = s.claims := rfl
@[simp] theorem State.setTransaction_member (s : State) (t : Option Transaction) : (s.setTransaction t).member = s.member := rfl
@[simp] theorem State.setTransaction_timebase (s : State) (t : Option Transaction) : (s.setTransaction t).timebase = s.timebase := rfl
@[simp] theorem State.setTransaction_config (s : State) (t : Option Transaction) : (s.setTransaction t).config = s.config := rfl
@[simp] theorem State.setTransaction_host (s : State) (t : Option Transaction) : (s.setTransaction t).host = { s.host with transaction := t } := rfl

/-! ### idle -/
@[simp] theorem State.idle_pending (s : State) : (s.idle).pending = s.pending := rfl
@[simp] theorem State.idle_line (s : State) : (s.idle).line = s.line := rfl
@[simp] theorem State.idle_tx (s : State) : (s.idle).tx = s.tx := rfl
@[simp] theorem State.idle_replica (s : State) : (s.idle).replica = s.replica := rfl
@[simp] theorem State.idle_claims (s : State) : (s.idle).claims = s.claims := rfl
@[simp] theorem State.idle_member (s : State) : (s.idle).member = s.member := rfl
@[simp] theorem State.idle_timebase (s : State) : (s.idle).timebase = s.timebase := rfl
@[simp] theorem State.idle_config (s : State) : (s.idle).config = s.config := rfl
@[simp] theorem State.idle_host (s : State) : (s.idle).host = s.host.arrive := rfl

/-! ### recessiveRead -/
@[simp] theorem State.recessiveRead_pending (s : State) : (s.recessiveRead).pending = s.pending := rfl
@[simp] theorem State.recessiveRead_line (s : State) : (s.recessiveRead).line = s.line.readBit true := rfl
@[simp] theorem State.recessiveRead_tx (s : State) : (s.recessiveRead).tx = s.tx := rfl
@[simp] theorem State.recessiveRead_replica (s : State) : (s.recessiveRead).replica = s.replica := rfl
@[simp] theorem State.recessiveRead_claims (s : State) : (s.recessiveRead).claims = s.claims := rfl
@[simp] theorem State.recessiveRead_member (s : State) : (s.recessiveRead).member = s.member := rfl
@[simp] theorem State.recessiveRead_timebase (s : State) : (s.recessiveRead).timebase = s.timebase := rfl
@[simp] theorem State.recessiveRead_config (s : State) : (s.recessiveRead).config = s.config := rfl
@[simp] theorem State.recessiveRead_host (s : State) : (s.recessiveRead).host = s.host := rfl

/-! ### restartRound -/
@[simp] theorem State.restartRound_pending (s : State) : (s.restartRound).pending = s.pending := rfl
@[simp] theorem State.restartRound_line (s : State) : (s.restartRound).line = s.line := rfl
@[simp] theorem State.restartRound_tx (s : State) : (s.restartRound).tx = s.tx := rfl
@[simp] theorem State.restartRound_replica (s : State) : (s.restartRound).replica = s.replica := rfl
@[simp] theorem State.restartRound_claims (s : State) : (s.restartRound).claims = s.claims := rfl
@[simp] theorem State.restartRound_member (s : State) : (s.restartRound).member = s.member := rfl
@[simp] theorem State.restartRound_timebase (s : State) : (s.restartRound).timebase = { s.timebase with sum := 0, count := 0, roundDeadline := some (s.now + s.roundSpan) } := rfl
@[simp] theorem State.restartRound_config (s : State) : (s.restartRound).config = s.config := rfl
@[simp] theorem State.restartRound_host (s : State) : (s.restartRound).host = s.host := rfl

/-! ### advanceBeacon -/
@[simp] theorem State.advanceBeacon_pending (s : State) (d : Tick) : (s.advanceBeacon d).pending = s.pending := rfl
@[simp] theorem State.advanceBeacon_line (s : State) (d : Tick) : (s.advanceBeacon d).line = s.line := rfl
@[simp] theorem State.advanceBeacon_tx (s : State) (d : Tick) : (s.advanceBeacon d).tx = s.tx := rfl
@[simp] theorem State.advanceBeacon_replica (s : State) (d : Tick) : (s.advanceBeacon d).replica = s.replica := rfl
@[simp] theorem State.advanceBeacon_claims (s : State) (d : Tick) : (s.advanceBeacon d).claims = s.claims := rfl
@[simp] theorem State.advanceBeacon_member (s : State) (d : Tick) : (s.advanceBeacon d).member = { s.member with beaconCounter := s.member.beaconCounter + 1, beaconDeadline := some (d + s.beaconPeriods 1) } := rfl
@[simp] theorem State.advanceBeacon_timebase (s : State) (d : Tick) : (s.advanceBeacon d).timebase = s.timebase := rfl
@[simp] theorem State.advanceBeacon_config (s : State) (d : Tick) : (s.advanceBeacon d).config = s.config := rfl
@[simp] theorem State.advanceBeacon_host (s : State) (d : Tick) : (s.advanceBeacon d).host = s.host := rfl

/-! ### startPresence -/
@[simp] theorem State.startPresence_pending (s : State) : (s.startPresence).pending = s.pending := by simp only [State.startPresence]
@[simp] theorem State.startPresence_line (s : State) : (s.startPresence).line = s.line := by simp only [State.startPresence]
@[simp] theorem State.startPresence_tx (s : State) : (s.startPresence).tx = s.tx := by simp only [State.startPresence]
@[simp] theorem State.startPresence_replica (s : State) : (s.startPresence).replica = s.replica := by simp only [State.startPresence]
@[simp] theorem State.startPresence_claims (s : State) : (s.startPresence).claims = s.claims := by simp only [State.startPresence]
@[simp] theorem State.startPresence_timebase (s : State) : (s.startPresence).timebase = s.timebase := by simp only [State.startPresence]
@[simp] theorem State.startPresence_config (s : State) : (s.startPresence).config = s.config := by simp only [State.startPresence]
@[simp] theorem State.startPresence_host (s : State) : (s.startPresence).host = s.host := by simp only [State.startPresence]

/-! ### drawIncarnation -/
@[simp] theorem State.drawIncarnation_pending (s : State) : (s.drawIncarnation).pending = s.pending := rfl
@[simp] theorem State.drawIncarnation_line (s : State) : (s.drawIncarnation).line = s.line := rfl
@[simp] theorem State.drawIncarnation_tx (s : State) : (s.drawIncarnation).tx = s.tx := rfl
@[simp] theorem State.drawIncarnation_replica (s : State) : (s.drawIncarnation).replica = s.replica := rfl
@[simp] theorem State.drawIncarnation_claims (s : State) : (s.drawIncarnation).claims = s.claims := rfl
@[simp] theorem State.drawIncarnation_timebase (s : State) : (s.drawIncarnation).timebase = s.timebase := rfl
@[simp] theorem State.drawIncarnation_config (s : State) : (s.drawIncarnation).config = s.config := rfl
@[simp] theorem State.drawIncarnation_host (s : State) : (s.drawIncarnation).host = s.host := rfl

/-! ### enterBeaconing -/
@[simp] theorem State.enterBeaconing_pending (s : State) (st : StationState) : (s.enterBeaconing st).pending = s.pending := rfl
@[simp] theorem State.enterBeaconing_line (s : State) (st : StationState) : (s.enterBeaconing st).line = s.line := rfl
@[simp] theorem State.enterBeaconing_tx (s : State) (st : StationState) : (s.enterBeaconing st).tx = s.tx := rfl
@[simp] theorem State.enterBeaconing_replica (s : State) (st : StationState) : (s.enterBeaconing st).replica = s.replica := rfl
@[simp] theorem State.enterBeaconing_claims (s : State) (st : StationState) : (s.enterBeaconing st).claims = s.claims := rfl
@[simp] theorem State.enterBeaconing_timebase (s : State) (st : StationState) : (s.enterBeaconing st).timebase = s.timebase := rfl
@[simp] theorem State.enterBeaconing_config (s : State) (st : StationState) : (s.enterBeaconing st).config = s.config := rfl
@[simp] theorem State.enterBeaconing_host (s : State) (st : StationState) : (s.enterBeaconing st).host = s.host := rfl

/-! ### recordBeacon -/
@[simp] theorem State.recordBeacon_pending (s : State) (d : Delivered) (b : BeaconBody) : (s.recordBeacon d b).pending = s.pending := rfl
@[simp] theorem State.recordBeacon_line (s : State) (d : Delivered) (b : BeaconBody) : (s.recordBeacon d b).line = s.line := rfl
@[simp] theorem State.recordBeacon_tx (s : State) (d : Delivered) (b : BeaconBody) : (s.recordBeacon d b).tx = s.tx := rfl
@[simp] theorem State.recordBeacon_replica (s : State) (d : Delivered) (b : BeaconBody) : (s.recordBeacon d b).replica = s.replica := rfl
@[simp] theorem State.recordBeacon_claims (s : State) (d : Delivered) (b : BeaconBody) : (s.recordBeacon d b).claims = s.claims := rfl
@[simp] theorem State.recordBeacon_timebase (s : State) (d : Delivered) (b : BeaconBody) : (s.recordBeacon d b).timebase = s.timebase := rfl
@[simp] theorem State.recordBeacon_config (s : State) (d : Delivered) (b : BeaconBody) : (s.recordBeacon d b).config = s.config := rfl
@[simp] theorem State.recordBeacon_host (s : State) (d : Delivered) (b : BeaconBody) : (s.recordBeacon d b).host = s.host := rfl

/-! ### dropNextOwn -/
@[simp] theorem State.dropNextOwn_pending (s : State) : (s.dropNextOwn).pending = s.pending := rfl
@[simp] theorem State.dropNextOwn_line (s : State) : (s.dropNextOwn).line = s.line := rfl
@[simp] theorem State.dropNextOwn_tx (s : State) : (s.dropNextOwn).tx = s.tx := rfl
@[simp] theorem State.dropNextOwn_replica (s : State) : (s.dropNextOwn).replica = s.replica := rfl
@[simp] theorem State.dropNextOwn_claims (s : State) : (s.dropNextOwn).claims = s.claims := rfl
@[simp] theorem State.dropNextOwn_timebase (s : State) : (s.dropNextOwn).timebase = s.timebase := rfl
@[simp] theorem State.dropNextOwn_config (s : State) : (s.dropNextOwn).config = s.config := rfl
@[simp] theorem State.dropNextOwn_host (s : State) : (s.dropNextOwn).host = s.host := rfl

end Sys2Proof.Machine
end

