-- ==== Sys2Proof/Laws/Ops.lean ====
section
/-! SUPPORT. For each shared operation one lemma that says once what it can do: deadlines, events, the Transmit Queue, the Lease Table, the two
dispatchers (a taken command record, a frame handed inward), bits outside a body, the members of a snapshot part, an idle report,
a sender's key, the end of a discipline round, and the withdrawal of a DEPART. -/

namespace Sys2Proof.Machine

/-! ## Deadlines (R62) -/

theorem reached_iff (now d : Tick) : reached now d = true ↔ 0 ≤ (now - d).toInt := by
  unfold reached; rw [BitVec.msb_eq_toInt]; simp

theorem not_reached_iff (now d : Tick) : reached now d = false ↔ (now - d).toInt < 0 := by
  unfold reached; rw [BitVec.msb_eq_toInt]; simp

@[simp] theorem expired_none (now : Tick) : expired now none = false := rfl
@[simp] theorem expired_some (now d : Tick) : expired now (some d) = reached now d := rfl

theorem expired_iff (now : Tick) (o : Option Tick) : expired now o = true ↔ ∃ d, o = some d ∧ 0 ≤ (now - d).toInt := by
  cases o <;> simp [reached_iff]

/-! ## Events (R174, R175) -/

/-- An event that reaches the Host Port is appended, with ATTN_N low, or dropped and counted. -/
theorem HostPort.append_spec (h : HostPort) (e : EventRecord) :
    (h.events.length < 32 ∧ h.append e = { h with events := h.events ++ [e], attnN := false })
      ∨ (32 ≤ h.events.length ∧ h.append e = { h with dropped := min (h.dropped + 1) 255 }) := by
  unfold HostPort.append
  simp only [Config.eventQueueSize, Config.byteCountMax]
  by_cases h32 : h.events.length < 32
  · exact .inl ⟨h32, by simp [h32]⟩
  · exact .inr ⟨by omega, by simp [h32]⟩

/-- Nothing but the Event Queue, its count and ATTN_N changes when an event reaches the Host Port. -/
@[simp] theorem HostPort.append_frame (h : HostPort) (e : EventRecord) :
    (h.append e).commands = h.commands ∧ (h.append e).rstN = h.rstN ∧ (h.append e).transaction = h.transaction
      ∧ (h.append e).raised = h.raised ∧ (h.append e).later = h.later := by
  obtain ⟨-, h'⟩ | ⟨-, h'⟩ := h.append_spec e <;> simp [h']

@[simp] theorem HostPort.appendAll_frame (es : List EventRecord) (h : HostPort) :
    (es.foldl HostPort.append h).commands = h.commands ∧ (es.foldl HostPort.append h).rstN = h.rstN
      ∧ (es.foldl HostPort.append h).transaction = h.transaction ∧ (es.foldl HostPort.append h).raised = h.raised
      ∧ (es.foldl HostPort.append h).later = h.later := by
  induction es generalizing h with
  | nil => simp
  | cons e es ih => simpa using ih (h.append e)

/-- An answer is appended behind every event raised before it. -/
theorem HostPort.answer_spec (h : HostPort) (e : EventRecord) :
    h.answer e = (h.raised ++ [e]).foldl HostPort.append { h with raised := [] } := by
  simp [HostPort.answer, HostPort.arriveAll]

@[simp] theorem HostPort.answer_frame (h : HostPort) (e : EventRecord) :
    (h.answer e).commands = h.commands ∧ (h.answer e).rstN = h.rstN ∧ (h.answer e).transaction = h.transaction
      ∧ (h.answer e).raised = [] ∧ (h.answer e).later = h.later := by
  simp [h.answer_spec]

/-- An event raised is kept to be appended later, or appended behind those raised before it. -/
theorem HostPort.raise_spec (h : HostPort) (e : EventRecord) :
    (h.later.head? = some true ∧ h.raise e = { h with raised := h.raised ++ [e], later := h.later.tail })
      ∨ (h.later.head? ≠ some true ∧ h.raise e = { h with later := h.later.tail }.answer e) := by
  cases hl : h.later with
  | nil => exact .inr ⟨by simp, by simp only [HostPort.raise, hl, List.tail_nil]; rw [← hl]⟩
  | cons b rest => cases b <;> simp [HostPort.raise, hl]

/-- Raising an event touches no command, no transaction and no pin but ATTN_N. -/
@[simp] theorem HostPort.raise_frame (h : HostPort) (e : EventRecord) :
    (h.raise e).commands = h.commands ∧ (h.raise e).rstN = h.rstN ∧ (h.raise e).transaction = h.transaction ∧ (h.raise e).later = h.later.tail := by
  obtain ⟨-, h'⟩ | ⟨-, h'⟩ := h.raise_spec e <;> simp [h']

/-- With no choice put off, an event raised is an answer. -/
theorem HostPort.raise_at_once (h : HostPort) (e : EventRecord) (hl : h.later = []) : h.raise e = h.answer e := by
  simp [HostPort.raise, hl]

/-- What arrives in a step with no command: the oldest event raised, if there is one. -/
theorem HostPort.arrive_spec (h : HostPort) :
    (h.raised = [] ∧ h.arrive = h) ∨ ∃ e es, h.raised = e :: es ∧ h.arrive = { h with raised := es }.append e := by
  cases hr : h.raised with
  | nil => exact .inl ⟨rfl, by simp [HostPort.arrive, hr]⟩
  | cons e es => exact .inr ⟨e, es, rfl, by simp [HostPort.arrive, hr]⟩

/-! ## Transactions (R166, R167, R186) -/

/-- One edge of a transaction: it begins or ends, clocks a byte of its access or after it, is ignored, or changes nothing. -/
theorem State.spi_spec (s : State) (e : SpiEdge) (owns : Byte → Bool) (latch : State → Transaction → Transaction)
    (byteDone closed : Transaction → State → State) :
    s.spi e owns latch byteDone closed = s
      ∨ (s.host.transaction = none ∧ e = .csFalls ∧ s.spi e owns latch byteDone closed = s.setTransaction (some s.host.begun))
      ∨ ∃ t, s.host.transaction = some t ∧
        ((e = .csRises ∧ s.spi e owns latch byteDone closed = s.setTransaction none)
          ∨ (∃ b, e = .byte b ∧ t.standing ≠ .taken ∧ s.spi e owns latch byteDone closed = s.ignoreByte t)
          ∨ (∃ b, e = .byte b ∧ t.access = none ∧ owns b = true ∧ s.spi e owns latch byteDone closed = s.setTransaction (some (latch s (t.named b))))
          ∨ (∃ b a, e = .byte b ∧ t.access = some a ∧ owns a = true
            ∧ s.spi e owns latch byteDone closed = byteDone (t.clocked b) (s.setTransaction (some (t.clocked b))))
          ∨ (∃ a, e = .csRises ∧ t.access = some a ∧ owns a = true ∧ s.spi e owns latch byteDone closed = closed t (s.setTransaction none))) := by
  unfold State.spi
  cases ht : s.host.transaction with
  | none => cases e <;> simp
  | some t =>
    obtain ⟨st, portByte, access, mosi, answer, place, record, sdo⟩ := t
    cases e with
    | csFalls => simp
    | byte b =>
      cases st with
      | taken =>
        cases access with
        | none => cases ho : owns b <;> simp [ho]
        | some a => cases ho : owns a <;> simp [ho]
      | cutOff => simp
      | void => simp
    | csRises =>
      cases st with
      | taken =>
        cases access with
        | none => simp
        | some a => cases ho : owns a <;> simp [ho]
      | cutOff => simp
      | void => simp

/-- Putting back the transaction that is there changes nothing. -/
theorem State.setTransaction_same (s : State) {t : Transaction} (ht : s.host.transaction = some t) : s.setTransaction (some t) = s := by
  simp [State.setTransaction, ← ht]

/-- A byte that is ignored changes the transaction alone. -/
theorem State.ignoreByte_spec (s : State) (t : Transaction) (ht : s.host.transaction = some t) :
    s.ignoreByte t = s.setTransaction (some { t with sdo := t.sdo ++ if t.standing = .void ∧ s.host.rstN = true then [0] else [] }) := by
  obtain ⟨st, portByte, access, mosi, answer, place, record, sdo⟩ := t
  have hs := s.setTransaction_same ht
  cases st <;> cases hr : s.host.rstN <;> simp [State.ignoreByte, hr, hs]

/-! ## Transmit Queue (R130, R135, R137, R134) -/

@[simp] theorem TxEntry.fresh_frame (f : Frame) : (TxEntry.fresh f).frame = f := rfl
@[simp] theorem TxEntry.fresh_inFlight (f : Frame) : (TxEntry.fresh f).inFlight = false := rfl
@[simp] theorem TxEntry.fresh_orphan (f : Frame) : (TxEntry.fresh f).orphan = false := rfl
@[simp] theorem TxEntry.fresh_withdrawn (f : Frame) : (TxEntry.fresh f).withdrawn = false := rfl
@[simp] theorem TxEntry.fresh_returnNotice (f : Frame) : (TxEntry.fresh f).returnNotice = false := rfl

/-- An insertion appends the frame and answers QUEUED_OK, or changes nothing and answers NO_ROOM. -/
theorem TransmitQueue.insert_spec (q : TransmitQueue) (f : Frame) :
    ((q.inGroup f.kind.group).length < f.kind.group.quota ∧ q.find? f.id = none ∧ q.insert f = (true, { q with entries := q.entries ++ [TxEntry.fresh f] }))
      ∨ ((f.kind.group.quota ≤ (q.inGroup f.kind.group).length ∨ (q.find? f.id).isSome = true) ∧ q.insert f = (false, q)) := by
  unfold TransmitQueue.insert
  split
  · rename_i h
    simp only [Bool.and_eq_true, decide_eq_true_eq, Option.isNone_iff_eq_none] at h
    exact .inl ⟨h.1, h.2, rfl⟩
  · rename_i h
    refine .inr ⟨?_, rfl⟩
    by_cases h1 : f.kind.group.quota ≤ (q.inGroup f.kind.group).length
    · exact .inl h1
    · refine .inr ?_
      cases hf : q.find? f.id with
      | none => exact absurd (by simp [hf]; omega) h
      | some e => rfl

/-- What a find in the queue finds is an entry of it, no orphan, of that identity. -/
theorem TransmitQueue.find?_spec {q : TransmitQueue} {id : FrameId} {e : TxEntry} (h : q.find? id = some e) :
    e ∈ q.entries ∧ e.orphan = false ∧ e.frame.id = id := by
  refine ⟨List.mem_of_find?_eq_some h, ?_⟩
  simpa using List.find?_some h

theorem TransmitQueue.find?_none {q : TransmitQueue} {id : FrameId} (h : q.find? id = none) :
    ∀ e ∈ q.entries, e.orphan = false → e.frame.id ≠ id := by
  intro e he ho hid
  have := List.find?_eq_none.mp h e he
  simp [ho, hid] at this

/-- A DECLINE moves from the pending set into a free place, or nothing changes. -/
theorem TransmitQueue.refillDecline_spec (q : TransmitQueue) :
    q.refillDecline = q ∨ ∃ d ds, q.pendingDeclines = d :: ds ∧ q.inGroup .declinePlace = []
      ∧ q.refillDecline = { q with entries := q.entries ++ [TxEntry.fresh (.decline d)], pendingDeclines := ds } := by
  unfold TransmitQueue.refillDecline
  split
  · rename_i h
    cases hp : q.pendingDeclines with
    | nil => exact .inl rfl
    | cons d ds => exact .inr ⟨d, ds, rfl, by simpa using h, rfl⟩
  · exact .inl rfl

@[simp] theorem TransmitQueue.refillDecline_awaiting (q : TransmitQueue) : q.refillDecline.awaiting = q.awaiting := by
  obtain h | ⟨d, ds, -, -, h⟩ := q.refillDecline_spec <;> rw [h]

/-- A withdrawal removes a waiting entry, marks one in flight, waits for one that awaits delivery, or finds none. -/
theorem TransmitQueue.withdraw_spec (q : TransmitQueue) (id : FrameId) :
    (∃ e, q.find? id = some e ∧ e.inFlight = false
        ∧ q.withdraw id = (.removed, { q with entries := q.entries.filter (fun x => x.orphan || x.frame.id != id) }.refillDecline))
      ∨ (∃ e, q.find? id = some e ∧ e.inFlight = true ∧ q.withdraw id = (.onLine, { q with
          entries := q.entries.map (fun x => if !x.orphan && x.frame.id == id then { x with withdrawn := true, returnNotice := false } else x) }))
      ∨ (q.find? id = none ∧ id ∈ q.awaiting ∧ q.withdraw id = (.onLine, q))
      ∨ (q.find? id = none ∧ id ∉ q.awaiting ∧ q.withdraw id = (.notFound, q)) := by
  unfold TransmitQueue.withdraw
  cases hf : q.find? id with
  | none =>
    by_cases hc : id ∈ q.awaiting
    · exact .inr (.inr (.inl ⟨rfl, hc, by simp [hc]⟩))
    · exact .inr (.inr (.inr ⟨rfl, hc, by simp [hc]⟩))
  | some e =>
    cases hi : e.inFlight with
    | false => exact .inl ⟨e, rfl, hi, by simp [hi]⟩
    | true => exact .inr (.inl ⟨e, rfl, hi, by simp [hi]⟩)

@[simp] theorem TransmitQueue.withdraw_awaiting (q : TransmitQueue) (id : FrameId) : (q.withdraw id).2.awaiting = q.awaiting := by
  obtain ⟨e, -, -, h⟩ | ⟨e, -, -, h⟩ | ⟨-, -, h⟩ | ⟨-, -, h⟩ := q.withdraw_spec id <;> rw [h]
  exact TransmitQueue.refillDecline_awaiting _

/-- The end of an attempt without acceptance: nothing flies, an orphan or a withdrawn frame is discarded, or the frame is kept. -/
theorem TransmitQueue.lose_spec (q : TransmitQueue) :
    (q.flying? = none ∧ q.lose = (.retry, q))
      ∨ ∃ e, q.flying? = some e ∧
        ((e.orphan = true ∧ q.lose = (.orphanEnded e.frame.id, q.land))
          ∨ (e.orphan = false ∧ e.withdrawn = true ∧ q.lose = (.discarded e.frame.id, q.land.refillDecline))
          ∨ (e.orphan = false ∧ e.withdrawn = false ∧ q.lose = (if e.returnNotice then .returned else .retry,
              { q with entries := q.entries.map (fun x => if x.inFlight then { x with inFlight := false, returnNotice := false } else x) }))) := by
  unfold TransmitQueue.lose
  cases hf : q.flying? with
  | none => exact .inl ⟨rfl, rfl⟩
  | some e =>
    refine .inr ⟨e, rfl, ?_⟩
    cases ho : e.orphan <;> cases hw : e.withdrawn <;> simp [ho, hw]

/-! ## Lease Table: reading after writing -/

@[simp] theorem Replica.entry_fin (rep : Replica) (r : Fin 64) : rep.entry r.val = rep.table[r] := by
  simp [Replica.entry]

theorem Replica.setEntry_lt (rep : Replica) (r : Nat) (h : r < 64) (e : ResourceEntry) :
    rep.setEntry r e = { rep with table := rep.table.set r e } := by
  simp [Replica.setEntry, h]

theorem Replica.entry_setEntry_same (rep : Replica) (r : Nat) (h : r < 64) (e : ResourceEntry) : (rep.setEntry r e).entry r = e := by
  simp [Replica.setEntry, Replica.entry, h]

theorem Replica.entry_setEntry_other (rep : Replica) (r q : Nat) (hq : q ≠ r) (e : ResourceEntry) : (rep.setEntry r e).entry q = rep.entry q := by
  unfold Replica.setEntry Replica.entry
  split
  · split
    · simp [Ne.symm hq]
    · rfl
  · rfl

@[simp] theorem Replica.setEntry_live (rep : Replica) (r : Nat) (e : ResourceEntry) : (rep.setEntry r e).live = rep.live := by
  unfold Replica.setEntry; split <;> rfl
@[simp] theorem Replica.setEntry_poolFree (rep : Replica) (r : Nat) (e : ResourceEntry) : (rep.setEntry r e).poolFree = rep.poolFree := by
  unfold Replica.setEntry; split <;> rfl
@[simp] theorem Replica.setEntry_counts (rep : Replica) (r : Nat) (e : ResourceEntry) : (rep.setEntry r e).counts = rep.counts := by
  unfold Replica.setEntry; split <;> rfl
@[simp] theorem Replica.setEntry_seq (rep : Replica) (r : Nat) (e : ResourceEntry) : (rep.setEntry r e).seq = rep.seq := by
  unfold Replica.setEntry; split <;> rfl
@[simp] theorem Replica.setEntry_stale (rep : Replica) (r : Nat) (e : ResourceEntry) : (rep.setEntry r e).stale = rep.stale := by
  unfold Replica.setEntry; split <;> rfl

@[simp] theorem Replica.setCount_live (rep : Replica) (p : Station) (n : Nat) : (rep.setCount p n).live = rep.live := rfl
@[simp] theorem Replica.setCount_table (rep : Replica) (p : Station) (n : Nat) : (rep.setCount p n).table = rep.table := rfl
@[simp] theorem Replica.setCount_poolFree (rep : Replica) (p : Station) (n : Nat) : (rep.setCount p n).poolFree = rep.poolFree := rfl
@[simp] theorem Replica.setCount_seq (rep : Replica) (p : Station) (n : Nat) : (rep.setCount p n).seq = rep.seq := rfl
@[simp] theorem Replica.setCount_stale (rep : Replica) (p : Station) (n : Nat) : (rep.setCount p n).stale = rep.stale := rfl
@[simp] theorem Replica.setCount_entry (rep : Replica) (p : Station) (n r : Nat) : (rep.setCount p n).entry r = rep.entry r := rfl

@[simp] theorem Replica.setRevocation_live (rep : Replica) (r : Nat) (p : Station) (v : RevocationState) : (rep.setRevocation r p v).live = rep.live := by
  simp [Replica.setRevocation]
@[simp] theorem Replica.setRevocation_seq (rep : Replica) (r : Nat) (p : Station) (v : RevocationState) : (rep.setRevocation r p v).seq = rep.seq := by
  simp [Replica.setRevocation]
@[simp] theorem Replica.setRevocation_stale (rep : Replica) (r : Nat) (p : Station) (v : RevocationState) : (rep.setRevocation r p v).stale = rep.stale := by
  simp [Replica.setRevocation]
@[simp] theorem Replica.setRevocation_counts (rep : Replica) (r : Nat) (p : Station) (v : RevocationState) : (rep.setRevocation r p v).counts = rep.counts := by
  simp [Replica.setRevocation]
@[simp] theorem Replica.setRevocation_poolFree (rep : Replica) (r : Nat) (p : Station) (v : RevocationState) :
    (rep.setRevocation r p v).poolFree = rep.poolFree := by
  simp [Replica.setRevocation]

/-- A lookup of a holder finds an entry of the list, of that station. -/
theorem ResourceEntry.holder?_spec {e : ResourceEntry} {p : Station} {h : Holder} (hh : e.holder? p = some h) : h ∈ e.holders ∧ h.station = p := by
  refine ⟨List.mem_of_find?_eq_some hh, ?_⟩
  simpa using List.find?_some hh

/-- A lookup of a waiter finds an entry of the list, of that station. -/
theorem ResourceEntry.waiter?_spec {e : ResourceEntry} {p : Station} {w : Waiter} (hw : e.waiter? p = some w) : w ∈ e.waiters ∧ w.station = p := by
  refine ⟨List.mem_of_find?_eq_some hw, ?_⟩
  simpa using List.find?_some hw

/-! ## The grant pass (R10, R11): lists and counter -/

/-- Granting the first `n` waiters takes them off the wait list, appends as many holders and advances the counter as often. -/
theorem LeaseContext.grantFirst_spec (x : LeaseContext) (r : ResNo) (n : Nat) (e : ResourceEntry) (hn : n ≤ e.waiters.length) :
    (x.grantFirst r n e).1.waiters = e.waiters.drop n
      ∧ (x.grantFirst r n e).1.counter = e.counter + BitVec.ofNat 16 n
      ∧ (x.grantFirst r n e).1.state = e.state
      ∧ (x.grantFirst r n e).1.holders.map (fun h => h.station) = e.holders.map (fun h => h.station) ++ (e.waiters.take n).map (fun w => w.station) := by
  induction n generalizing e with
  | zero => simp [LeaseContext.grantFirst]
  | succ n ih =>
    cases hw : e.waiters with
    | nil => simp [hw] at hn
    | cons w ws =>
      simp only [LeaseContext.grantFirst, hw]
      obtain ⟨h1, h2, h3, h4⟩ := ih { e with counter := e.counter + 1, waiters := ws, holders := e.holders ++ [x.newHolder w.station (e.counter + 1) w.term] }
        (by simp [hw] at hn; exact hn)
      refine ⟨by simpa using h1, ?_, h3, ?_⟩
      · rw [h2, BitVec.add_assoc]; congr 1
        rw [Nat.add_comm n 1, BitVec.ofNat_add]; rfl
      · rw [h4]; simp [LeaseContext.newHolder]

theorem grantCount_le (st : ResourceState) (ws : List Waiter) : grantCount st ws ≤ ws.length := by
  unfold grantCount
  split
  · simp
  · split <;> first | exact (List.takeWhile_sublist _).length_le | simp

@[simp] theorem LeaseContext.grantPass_live (x : LeaseContext) (r : ResNo) (rep : Replica) : (x.grantPass r rep).1.live = rep.live := by
  simp [LeaseContext.grantPass]
@[simp] theorem LeaseContext.grantPass_seq (x : LeaseContext) (r : ResNo) (rep : Replica) : (x.grantPass r rep).1.seq = rep.seq := by
  simp [LeaseContext.grantPass]
@[simp] theorem LeaseContext.grantPass_stale (x : LeaseContext) (r : ResNo) (rep : Replica) : (x.grantPass r rep).1.stale = rep.stale := by
  simp [LeaseContext.grantPass]
@[simp] theorem LeaseContext.grantPass_counts (x : LeaseContext) (r : ResNo) (rep : Replica) : (x.grantPass r rep).1.counts = rep.counts := by
  simp [LeaseContext.grantPass]

/-! ## Taking a command record, handing a frame inward -/

/-- A taking changes nothing where the oldest record is not of the kind; otherwise the record leaves and is served. -/
theorem State.takeRecord_spec (s : State) (k : CommandKind) (act : CommandRecord → State → Except RefusedReason State) :
    ((∀ r ∈ s.host.commands.head?, r.validKind ≠ some k) ∧ s.takeRecord k act = s)
      ∨ ∃ r rest, s.host.commands = r :: rest ∧ r.validKind = some k ∧ s.takeRecord k act = s.answering (fun t => t.dropCommand.serve k r act) := by
  unfold State.takeRecord
  cases hc : s.host.commands with
  | nil => exact .inl ⟨by simp, rfl⟩
  | cons r rest =>
    by_cases hk : r.validKind = some k
    · exact .inr ⟨r, rest, rfl, hk, by simp [hk]⟩
    · exact .inl ⟨by simpa using hk, by simp [hk]⟩

/-- What a taking does is done with no event put off; the choices for other events are kept. -/
theorem State.answering_spec (s : State) (f : State → State) :
    s.answering f = { f { s with host := { s.host with later := [] } } with
      host := { (f { s with host := { s.host with later := [] } }).host with later := s.host.later } } := rfl

@[simp] theorem State.answering_later (s : State) (f : State → State) : (s.answering f).host.later = s.host.later := rfl

/-- A served record is refused for its state, for its range or by the serving block, or is acted on. -/
theorem State.serve_spec (s : State) (k : CommandKind) (r : CommandRecord) (act : CommandRecord → State → Except RefusedReason State) :
    (k.takenIn s.member.state = false ∧ s.serve k r act = s.place (r.refusal .state (r.refusedSubject k)))
      ∨ (k.takenIn s.member.state = true ∧ r.inRange s.cfg k = false ∧ s.serve k r act = s.place (r.refusal .range (r.refusedSubject k)))
      ∨ (k.takenIn s.member.state = true ∧ r.inRange s.cfg k = true ∧
        ((∃ t, act r s = .ok t ∧ s.serve k r act = t)
          ∨ ∃ reason, act r s = .error reason ∧ s.serve k r act = s.place (r.refusal reason (r.refusedSubject k)))) := by
  unfold State.serve
  cases ht : k.takenIn s.member.state with
  | false => exact .inl ⟨rfl, by simp⟩
  | true =>
    cases hr : r.inRange s.cfg k with
    | false => exact .inr (.inl ⟨rfl, rfl, by simp⟩)
    | true =>
      refine .inr (.inr ⟨rfl, rfl, ?_⟩)
      cases ha : act r s with
      | ok t => exact .inl ⟨t, rfl, by simp⟩
      | error reason => exact .inr ⟨reason, rfl, by simp⟩

/-- A frame command changes nothing where the oldest frame is not of its kind; otherwise the frame leaves the delivery order and is received. -/
theorem State.deliver_spec (s : State) (k : FrameKind) :
    ((∀ d ∈ s.line.delivery.head?, d.frame.kind ≠ k) ∧ s.deliver k = s)
      ∨ ∃ d rest, s.line.delivery = d :: rest ∧ d.frame.kind = k ∧ s.deliver k = s.dropDelivery.receive d := by
  unfold State.deliver
  cases hc : s.line.delivery with
  | nil => exact .inl ⟨by simp, rfl⟩
  | cons d rest =>
    by_cases hk : d.frame.kind = k
    · exact .inr ⟨d, rest, rfl, hk, by simp [hk]⟩
    · exact .inl ⟨by simpa using hk, by simp [hk]⟩

/-- Every frame command hands its own kind inward. -/
theorem exec_handing (k : FrameKind) (s : State) : exec k.handing s = .next (s.deliver k) := by
  cases k <;> rfl

/-- With no frame waiting all have been handed inward already. -/
@[simp] theorem State.allDelivered_of_nil (s : State) (h : s.line.delivery = []) : s.allDelivered = s := by simp [State.allDelivered, h]

/-- Handing all inward is running the command of each waiting frame, oldest first. -/
theorem State.allDelivered_eq_exec (s : State) :
    s.allDelivered = s.line.delivery.foldl (fun t d => match exec d.frame.kind.handing t with | .next u => u | _ => t) s := by
  simp only [State.allDelivered, exec_handing]

/-! ## Bits outside a body, and the members of a snapshot part -/

/-- What one bit read outside a body does (R148, R156). -/
theorem LineController.readBit_spec (l : LineController) (b : Level) :
    (l.phase = .seekingIdle ∧ l.readBit b = { l with recessiveRun := countLevel l.recessiveRun b, phase := phaseAfter (countLevel l.recessiveRun b) })
      ∨ (l.phase = .inFrame ∧ l.decode = none ∧ 1 < l.endBits
        ∧ l.readBit b = { l with recessiveRun := countLevel l.recessiveRun b, endBits := l.endBits - 1 })
      ∨ (l.phase = .inFrame ∧ l.decode = none ∧ l.endBits ≤ 1
        ∧ l.readBit b = { l with recessiveRun := countLevel l.recessiveRun b, endBits := 0, phase := phaseAfter (countLevel l.recessiveRun b) })
      ∨ ((l.phase = .silent ∨ l.phase = .idle ∨ (l.phase = .inFrame ∧ l.decode.isSome = true)) ∧ l.readBit b = l) := by
  unfold LineController.readBit
  rcases l with ⟨ph, run, bits, dec, _⟩
  cases ph <;> cases dec <;> simp
  by_cases h : 1 < bits
  · simp [h]
  · exact .inr ⟨by omega, by simp [h]; omega⟩

/-- Members that pass are appended in the order carried, holders and waiters apart. -/
theorem SnapEntry.addAll_some (ms : List Member) :
    ∀ e e' : SnapEntry, e.addAll ms = some e' →
      e' = { e with
        holders := e.holders ++ (ms.filter (fun m => m.holder)).map (fun m => { station := m.station, grant := m.grant, remaining := m.term })
        waiters := e.waiters
          ++ (ms.filter (fun m => !m.holder)).map (fun m => { station := m.station, mode := if m.mode = 1 then .exclusive else .shared, term := m.term }) } := by
  induction ms with
  | nil => intro e e' h; simp [SnapEntry.addAll] at h; simp [← h]
  | cons m ms ih =>
    intro e e' h
    simp only [SnapEntry.addAll] at h
    split at h
    · cases h
    · rename_i e₁ h₁
      rw [ih e₁ e' h]
      simp only [SnapEntry.add] at h₁
      split at h₁
      · cases h₁
      · split at h₁
        · split at h₁
          · cases h₁
          · cases h₁; simp [*]
        · split at h₁
          · cases h₁
          · rename_i mode hm
            cases h₁
            have : ∀ x : BitVec 2, Mode.ofCode x = some mode → mode = if x = 1 then .exclusive else .shared := by
              cases mode <;> decide
            simp [*, this m.mode hm]

/-! ## An idle report (R132, R133) -/

/-- An idle report starts the candidate, on an idle line with no frame in flight, in a state that offers frames; otherwise it changes nothing. -/
theorem State.idleReport_spec (s : State) :
    (∃ e, s.tx.candidate? = some e ∧ s.line.phase = .idle ∧ s.tx.flying? = none ∧ s.member.state.offers = true ∧ s.idleReport = s.startFrame e)
      ∨ ((s.line.phase ≠ .idle ∨ s.tx.flying? ≠ none ∨ s.member.state.offers = false ∨ s.tx.candidate? = none) ∧ s.idleReport = s) := by
  unfold State.idleReport
  split
  · rename_i h
    simp only [Bool.and_eq_true, decide_eq_true_eq, Option.isNone_iff_eq_none] at h
    obtain ⟨⟨hp, hf⟩, ho⟩ := h
    split
    · exact .inl ⟨_, ‹_›, hp, hf, ho, rfl⟩
    · exact .inr ⟨.inr (.inr (.inr ‹_›)), rfl⟩
  · rename_i h
    simp only [Bool.and_eq_true, decide_eq_true_eq, Option.isNone_iff_eq_none, not_and_or] at h
    refine .inr ⟨?_, rfl⟩
    obtain (hp | hf) | ho := h
    · exact .inl hp
    · exact .inr (.inl hf)
    · exact .inr (.inr (.inl (by simpa using ho)))

/-! ## The key of a frame being sent (R152, R153) -/

/-- The key is held exactly if none of its recessive bits as sent was read dominant. -/
theorem keyHeld_iff (rx : Rx) (toSend levels : List Level) :
    keyHeld rx toSend levels = true ↔
      ∀ k, k < keyEnd → toSend[k]? = some true → levels[k]? = some false → keyEnd ≤ ((toSend.take k).foldl Rx.feed rx).bits.length := by
  simp only [keyHeld, lostAt, inKey, List.all_eq_true, List.mem_range, Bool.not_eq_true', Bool.and_eq_false_iff, beq_eq_false_iff_ne,
    decide_eq_false_iff_not, Nat.not_lt]
  exact forall_congr' fun k => by tauto

/-- What a sender decodes on with where it can lose arbitration: the levels it read, a readback fault recorded where they are not those it sent. -/
theorem readBack_spec (levels : List Level) (rx rx' : Rx) (toSend : List Level) (h : readBack levels rx toSend = some rx') :
    toSend[levels.length]? = some true ∧ inKey rx toSend levels.length = true ∧ keyHeld rx toSend levels = true
      ∧ rx' = (levels.foldl Rx.feed rx).note (levels != toSend.take levels.length) .readback := by
  simp only [readBack] at h
  split at h
  · rename_i hc
    simp only [Bool.and_eq_true, decide_eq_true_eq] at hc
    exact ⟨hc.1.1, hc.1.2, hc.2, (Option.some.inj h).symm⟩
  · cases h

/-! ## The end of a round (R70, R71, R72) -/

/-- A round with no samples leaves the trim and ends in FREE. -/
theorem Timebase.endRound_no_samples (t : Timebase) (d span : Tick) (h : t.count = 0) :
    t.endRound d span = { t with sum := 0, count := 0, quiet := false, state := .free, roundDeadline := some (d + span) } := by
  simp [Timebase.endRound, Timebase.corrected, Timebase.quietRound, Timebase.nextState, h]

/-- Only the accumulator can differ from the Timebase's own where a round ends, and it is empty outside ONLINE. -/
theorem State.endingRound_spec (s : State) :
    (s.member.state = .online ∧ s.endingRound = s.timebase)
      ∨ (s.member.state ≠ .online ∧ s.endingRound = { s.timebase with sum := 0, count := 0 }) := by
  by_cases h : s.member.state = .online
  · exact .inl ⟨h, by simp [State.endingRound, h]⟩
  · exact .inr ⟨h, by simp [State.endingRound, h]⟩

/-! ## The withdrawal of a DEPART (R89, R90, R91) -/

/-- The withdrawal of an own DEPART changes the Transmit Queue as asked, and the departure state unless the frame is on the line. -/
theorem State.askDepart_spec (s : State) (p : Station) :
    ((s.tx.withdraw (.depart p)).1 = .onLine ∧ s.askDepart p = { s with tx := (s.tx.withdraw (.depart p)).2 })
      ∨ ((s.tx.withdraw (.depart p)).1 ≠ .onLine
        ∧ s.askDepart p = { s with tx := (s.tx.withdraw (.depart p)).2 }.setPeer p { s.peer p with departQueued := false }) := by
  unfold State.askDepart
  simp only [State.withdrawFrame]
  cases (s.tx.withdraw (.depart p)).1
  · exact .inr ⟨by simp, rfl⟩
  · exact .inl ⟨rfl, rfl⟩
  · exact .inr ⟨by simp, rfl⟩

end Sys2Proof.Machine
end

