-- ==== Sys2Proof/Laws/Frame.lean ====
section
/-! SUPPORT. What each compound operation leaves unchanged, field by field: one lemma for each, a conjunction that simp splits. -/

namespace Sys2Proof.Machine

@[simp] theorem State.placeAll_frame (s : State) (es : List EventRecord) :
    (s.placeAll es).pending = s.pending
      ∧ (s.placeAll es).line = s.line
      ∧ (s.placeAll es).tx = s.tx
      ∧ (s.placeAll es).replica = s.replica
      ∧ (s.placeAll es).claims = s.claims
      ∧ (s.placeAll es).member = s.member
      ∧ (s.placeAll es).timebase = s.timebase
      ∧ (s.placeAll es).config = s.config := by
  induction es generalizing s with
  | nil => simp [State.placeAll]
  | cons e es ih => simpa [State.placeAll] using ih (s.place e)

@[simp] theorem State.withdrawAll_frame (s : State) (ids : List FrameId) :
    (s.withdrawAll ids).pending = s.pending
      ∧ (s.withdrawAll ids).line = s.line
      ∧ (s.withdrawAll ids).replica = s.replica
      ∧ (s.withdrawAll ids).claims = s.claims
      ∧ (s.withdrawAll ids).member = s.member
      ∧ (s.withdrawAll ids).timebase = s.timebase
      ∧ (s.withdrawAll ids).config = s.config
      ∧ (s.withdrawAll ids).host = s.host := by
  induction ids generalizing s with
  | nil => simp [State.withdrawAll]
  | cons e es ih => simpa [State.withdrawAll] using ih (s.withdrawFrame e).2

@[simp] theorem State.endSlot_frame (s : State) (i : Fin 8) (es : List EventRecord) :
    (s.endSlot i es).pending = s.pending
      ∧ (s.endSlot i es).line = s.line
      ∧ (s.endSlot i es).tx = s.tx
      ∧ (s.endSlot i es).replica = s.replica
      ∧ (s.endSlot i es).member = s.member
      ∧ (s.endSlot i es).timebase = s.timebase
      ∧ (s.endSlot i es).config = s.config := by simp [State.endSlot]

@[simp] theorem State.endEnding_frame (s : State) (i : Fin 8) (sl : Slot) :
    (s.endEnding i sl).pending = s.pending
      ∧ (s.endEnding i sl).line = s.line
      ∧ (s.endEnding i sl).tx = s.tx
      ∧ (s.endEnding i sl).replica = s.replica
      ∧ (s.endEnding i sl).member = s.member
      ∧ (s.endEnding i sl).timebase = s.timebase
      ∧ (s.endEnding i sl).config = s.config := by
  unfold State.endEnding Slot.following
  split <;> simp

@[simp] theorem State.queueSlotFrame_frame (s : State) (i : Fin 8) (sl : Slot) (k : LeaseKind) (f : Frame) :
    (s.queueSlotFrame i sl k f).pending = s.pending
      ∧ (s.queueSlotFrame i sl k f).line = s.line
      ∧ (s.queueSlotFrame i sl k f).replica = s.replica
      ∧ (s.queueSlotFrame i sl k f).member = s.member
      ∧ (s.queueSlotFrame i sl k f).timebase = s.timebase
      ∧ (s.queueSlotFrame i sl k f).config = s.config
      ∧ (s.queueSlotFrame i sl k f).host = s.host := by simp [State.queueSlotFrame]

@[simp] theorem State.queueDrop_frame (s : State) (i : Fin 8) (sl : Slot) (n : Word16) :
    (s.queueDrop i sl n).pending = s.pending
      ∧ (s.queueDrop i sl n).line = s.line
      ∧ (s.queueDrop i sl n).replica = s.replica
      ∧ (s.queueDrop i sl n).member = s.member
      ∧ (s.queueDrop i sl n).timebase = s.timebase
      ∧ (s.queueDrop i sl n).config = s.config
      ∧ (s.queueDrop i sl n).host = s.host := by simp [State.queueDrop]

@[simp] theorem State.queueWithdraw_frame (s : State) (i : Fin 8) (sl : Slot) :
    (s.queueWithdraw i sl).pending = s.pending
      ∧ (s.queueWithdraw i sl).line = s.line
      ∧ (s.queueWithdraw i sl).replica = s.replica
      ∧ (s.queueWithdraw i sl).member = s.member
      ∧ (s.queueWithdraw i sl).timebase = s.timebase
      ∧ (s.queueWithdraw i sl).config = s.config
      ∧ (s.queueWithdraw i sl).host = s.host := by simp [State.queueWithdraw]

@[simp] theorem State.withdrawSlotFrame_frame (s : State) (sl : Slot) :
    ((s.withdrawSlotFrame sl).2).pending = s.pending
      ∧ ((s.withdrawSlotFrame sl).2).line = s.line
      ∧ ((s.withdrawSlotFrame sl).2).replica = s.replica
      ∧ ((s.withdrawSlotFrame sl).2).claims = s.claims
      ∧ ((s.withdrawSlotFrame sl).2).member = s.member
      ∧ ((s.withdrawSlotFrame sl).2).timebase = s.timebase
      ∧ ((s.withdrawSlotFrame sl).2).config = s.config
      ∧ ((s.withdrawSlotFrame sl).2).host = s.host := by
  unfold State.withdrawSlotFrame
  repeat' split
  all_goals simp

@[simp] theorem State.endHeldSlot_frame (s : State) (i : Fin 8) (sl : Slot) (a : Option FollowingAnswer) :
    (s.endHeldSlot i sl a).pending = s.pending
      ∧ (s.endHeldSlot i sl a).line = s.line
      ∧ (s.endHeldSlot i sl a).replica = s.replica
      ∧ (s.endHeldSlot i sl a).member = s.member
      ∧ (s.endHeldSlot i sl a).timebase = s.timebase
      ∧ (s.endHeldSlot i sl a).config = s.config := by
  unfold State.endHeldSlot
  simp only
  split_ifs <;> simp

@[simp] theorem State.reportSending_frame (s : State) (i : Fin 8) (sl : Slot) (rep : Report) :
    (s.reportSending i sl rep).pending = s.pending
      ∧ (s.reportSending i sl rep).line = s.line
      ∧ (s.reportSending i sl rep).replica = s.replica
      ∧ (s.reportSending i sl rep).member = s.member
      ∧ (s.reportSending i sl rep).timebase = s.timebase
      ∧ (s.reportSending i sl rep).config = s.config := by
  unfold State.reportSending
  repeat' split
  all_goals simp

@[simp] theorem State.reportWaiting_frame (s : State) (i : Fin 8) (sl : Slot) (rep : Report) :
    (s.reportWaiting i sl rep).pending = s.pending
      ∧ (s.reportWaiting i sl rep).line = s.line
      ∧ (s.reportWaiting i sl rep).replica = s.replica
      ∧ (s.reportWaiting i sl rep).member = s.member
      ∧ (s.reportWaiting i sl rep).timebase = s.timebase
      ∧ (s.reportWaiting i sl rep).config = s.config := by
  unfold State.reportWaiting
  repeat' split
  all_goals simp

@[simp] theorem State.reportHeld_frame (s : State) (i : Fin 8) (sl : Slot) (rep : Report) :
    (s.reportHeld i sl rep).pending = s.pending
      ∧ (s.reportHeld i sl rep).line = s.line
      ∧ (s.reportHeld i sl rep).replica = s.replica
      ∧ (s.reportHeld i sl rep).member = s.member
      ∧ (s.reportHeld i sl rep).timebase = s.timebase
      ∧ (s.reportHeld i sl rep).config = s.config := by
  unfold State.reportHeld
  repeat' split
  all_goals simp

@[simp] theorem State.reportRenewing_frame (s : State) (i : Fin 8) (sl : Slot) (rep : Report) :
    (s.reportRenewing i sl rep).pending = s.pending
      ∧ (s.reportRenewing i sl rep).line = s.line
      ∧ (s.reportRenewing i sl rep).replica = s.replica
      ∧ (s.reportRenewing i sl rep).member = s.member
      ∧ (s.reportRenewing i sl rep).timebase = s.timebase
      ∧ (s.reportRenewing i sl rep).config = s.config := by
  unfold State.reportRenewing
  repeat' split
  all_goals simp

@[simp] theorem State.reportReleasing_frame (s : State) (i : Fin 8) (sl : Slot) (rep : Report) :
    (s.reportReleasing i sl rep).pending = s.pending
      ∧ (s.reportReleasing i sl rep).line = s.line
      ∧ (s.reportReleasing i sl rep).replica = s.replica
      ∧ (s.reportReleasing i sl rep).member = s.member
      ∧ (s.reportReleasing i sl rep).timebase = s.timebase
      ∧ (s.reportReleasing i sl rep).config = s.config := by
  unfold State.reportReleasing
  repeat' split
  all_goals simp

@[simp] theorem State.reportWithdrawing_frame (s : State) (i : Fin 8) (sl : Slot) (rep : Report) :
    (s.reportWithdrawing i sl rep).pending = s.pending
      ∧ (s.reportWithdrawing i sl rep).line = s.line
      ∧ (s.reportWithdrawing i sl rep).replica = s.replica
      ∧ (s.reportWithdrawing i sl rep).member = s.member
      ∧ (s.reportWithdrawing i sl rep).timebase = s.timebase
      ∧ (s.reportWithdrawing i sl rep).config = s.config := by
  unfold State.reportWithdrawing
  repeat' split
  all_goals simp

@[simp] theorem State.reportWithdrawingDrop_frame (s : State) (i : Fin 8) (sl : Slot) (rep : Report) :
    (s.reportWithdrawingDrop i sl rep).pending = s.pending
      ∧ (s.reportWithdrawingDrop i sl rep).line = s.line
      ∧ (s.reportWithdrawingDrop i sl rep).replica = s.replica
      ∧ (s.reportWithdrawingDrop i sl rep).member = s.member
      ∧ (s.reportWithdrawingDrop i sl rep).timebase = s.timebase
      ∧ (s.reportWithdrawingDrop i sl rep).config = s.config := by
  unfold State.reportWithdrawingDrop
  repeat' split
  all_goals simp

@[simp] theorem State.reportLapsedDrop_frame (s : State) (i : Fin 8) (sl : Slot) (rep : Report) :
    (s.reportLapsedDrop i sl rep).pending = s.pending
      ∧ (s.reportLapsedDrop i sl rep).line = s.line
      ∧ (s.reportLapsedDrop i sl rep).replica = s.replica
      ∧ (s.reportLapsedDrop i sl rep).member = s.member
      ∧ (s.reportLapsedDrop i sl rep).timebase = s.timebase
      ∧ (s.reportLapsedDrop i sl rep).config = s.config := by
  unfold State.reportLapsedDrop
  repeat' split
  all_goals simp

@[simp] theorem State.reportLapsedExtend_frame (s : State) (i : Fin 8) (sl : Slot) (rep : Report) :
    (s.reportLapsedExtend i sl rep).pending = s.pending
      ∧ (s.reportLapsedExtend i sl rep).line = s.line
      ∧ (s.reportLapsedExtend i sl rep).replica = s.replica
      ∧ (s.reportLapsedExtend i sl rep).member = s.member
      ∧ (s.reportLapsedExtend i sl rep).timebase = s.timebase
      ∧ (s.reportLapsedExtend i sl rep).config = s.config := by
  unfold State.reportLapsedExtend
  repeat' split
  all_goals simp

@[simp] theorem State.reportEnding_frame (s : State) (i : Fin 8) (sl : Slot) (rep : Report) :
    (s.reportEnding i sl rep).pending = s.pending
      ∧ (s.reportEnding i sl rep).line = s.line
      ∧ (s.reportEnding i sl rep).replica = s.replica
      ∧ (s.reportEnding i sl rep).member = s.member
      ∧ (s.reportEnding i sl rep).timebase = s.timebase
      ∧ (s.reportEnding i sl rep).config = s.config := by
  unfold State.reportEnding
  repeat' split
  all_goals simp

@[simp] theorem State.claimReport_frame (s : State) (rep : Report) :
    (s.claimReport rep).pending = s.pending
      ∧ (s.claimReport rep).line = s.line
      ∧ (s.claimReport rep).replica = s.replica
      ∧ (s.claimReport rep).member = s.member
      ∧ (s.claimReport rep).timebase = s.timebase
      ∧ (s.claimReport rep).config = s.config := by
  unfold State.claimReport
  split
  · simp
  · simp only
    split
    all_goals (try split)
    all_goals simp

@[simp] theorem State.claimReports_frame (s : State) (reps : List Report) :
    (s.claimReports reps).pending = s.pending
      ∧ (s.claimReports reps).line = s.line
      ∧ (s.claimReports reps).replica = s.replica
      ∧ (s.claimReports reps).member = s.member
      ∧ (s.claimReports reps).timebase = s.timebase
      ∧ (s.claimReports reps).config = s.config := by
  induction reps generalizing s with
  | nil => simp [State.claimReports]
  | cons e es ih => simpa [State.claimReports] using ih (s.claimReport e)

@[simp] theorem State.claimDiscarded_frame (s : State) (k : LeaseKind) (r : ResNo) :
    (s.claimDiscarded k r).pending = s.pending
      ∧ (s.claimDiscarded k r).line = s.line
      ∧ (s.claimDiscarded k r).replica = s.replica
      ∧ (s.claimDiscarded k r).member = s.member
      ∧ (s.claimDiscarded k r).timebase = s.timebase
      ∧ (s.claimDiscarded k r).config = s.config := by
  unfold State.claimDiscarded
  split
  · simp
  · simp only
    repeat' split
    all_goals simp

@[simp] theorem State.selfExpire_frame (s : State) (i : Fin 8) :
    (s.selfExpire i).pending = s.pending
      ∧ (s.selfExpire i).line = s.line
      ∧ (s.selfExpire i).replica = s.replica
      ∧ (s.selfExpire i).member = s.member
      ∧ (s.selfExpire i).timebase = s.timebase
      ∧ (s.selfExpire i).config = s.config := by
  unfold State.selfExpire
  simp only
  repeat' split
  all_goals simp

@[simp] theorem State.queueOwn_frame (s : State) (k : OwnKind) :
    (s.queueOwn k).pending = s.pending
      ∧ (s.queueOwn k).line = s.line
      ∧ (s.queueOwn k).replica = s.replica
      ∧ (s.queueOwn k).claims = s.claims
      ∧ (s.queueOwn k).timebase = s.timebase
      ∧ (s.queueOwn k).config = s.config
      ∧ (s.queueOwn k).host = s.host := by
  unfold State.queueOwn
  repeat' split
  all_goals simp

@[simp] theorem State.ownLeft_frame (s : State) :
    (s.ownLeft).pending = s.pending
      ∧ (s.ownLeft).line = s.line
      ∧ (s.ownLeft).replica = s.replica
      ∧ (s.ownLeft).claims = s.claims
      ∧ (s.ownLeft).timebase = s.timebase
      ∧ (s.ownLeft).config = s.config
      ∧ (s.ownLeft).host = s.host := by
  unfold State.ownLeft
  split
  · simp
  · simp only
    split <;> simp

@[simp] theorem State.withdrawOwn_frame (s : State) :
    (s.withdrawOwn.2).pending = s.pending
      ∧ (s.withdrawOwn.2).line = s.line
      ∧ (s.withdrawOwn.2).replica = s.replica
      ∧ (s.withdrawOwn.2).claims = s.claims
      ∧ (s.withdrawOwn.2).timebase = s.timebase
      ∧ (s.withdrawOwn.2).config = s.config
      ∧ (s.withdrawOwn.2).host = s.host := by
  unfold State.withdrawOwn
  split
  · simp
  · simp only
    split <;> simp

@[simp] theorem State.stopBeacons_frame (s : State) :
    (s.stopBeacons).pending = s.pending
      ∧ (s.stopBeacons).line = s.line
      ∧ (s.stopBeacons).replica = s.replica
      ∧ (s.stopBeacons).claims = s.claims
      ∧ (s.stopBeacons).timebase = s.timebase
      ∧ (s.stopBeacons).config = s.config
      ∧ (s.stopBeacons).host = s.host := by simp [State.stopBeacons]

@[simp] theorem State.askDepart_frame (s : State) (p : Station) :
    (s.askDepart p).pending = s.pending
      ∧ (s.askDepart p).line = s.line
      ∧ (s.askDepart p).replica = s.replica
      ∧ (s.askDepart p).claims = s.claims
      ∧ (s.askDepart p).timebase = s.timebase
      ∧ (s.askDepart p).config = s.config
      ∧ (s.askDepart p).host = s.host := by
  unfold State.askDepart
  simp only
  split <;> simp

@[simp] theorem State.withdrawDepart_frame (s : State) (p : Station) :
    (s.withdrawDepart p).pending = s.pending
      ∧ (s.withdrawDepart p).line = s.line
      ∧ (s.withdrawDepart p).replica = s.replica
      ∧ (s.withdrawDepart p).claims = s.claims
      ∧ (s.withdrawDepart p).timebase = s.timebase
      ∧ (s.withdrawDepart p).config = s.config
      ∧ (s.withdrawDepart p).host = s.host := by
  unfold State.withdrawDepart
  repeat' split
  all_goals simp

@[simp] theorem State.renewPresence_frame (s : State) (p : Station) (t : Tick) :
    (s.renewPresence p t).pending = s.pending
      ∧ (s.renewPresence p t).line = s.line
      ∧ (s.renewPresence p t).replica = s.replica
      ∧ (s.renewPresence p t).claims = s.claims
      ∧ (s.renewPresence p t).timebase = s.timebase
      ∧ (s.renewPresence p t).config = s.config
      ∧ (s.renewPresence p t).host = s.host := by
  unfold State.renewPresence
  simp only
  repeat' split
  all_goals simp

@[simp] theorem State.departDiscarded_frame (s : State) (p : Station) :
    (s.departDiscarded p).pending = s.pending
      ∧ (s.departDiscarded p).line = s.line
      ∧ (s.departDiscarded p).replica = s.replica
      ∧ (s.departDiscarded p).claims = s.claims
      ∧ (s.departDiscarded p).timebase = s.timebase
      ∧ (s.departDiscarded p).config = s.config
      ∧ (s.departDiscarded p).host = s.host := by
  unfold State.departDiscarded
  simp only
  repeat' split
  all_goals simp

@[simp] theorem State.clearTimebase_frame (s : State) :
    (s.clearTimebase).pending = s.pending
      ∧ (s.clearTimebase).line = s.line
      ∧ (s.clearTimebase).tx = s.tx
      ∧ (s.clearTimebase).replica = s.replica
      ∧ (s.clearTimebase).claims = s.claims
      ∧ (s.clearTimebase).member = s.member
      ∧ (s.clearTimebase).config = s.config := by
  unfold State.clearTimebase
  simp only
  split <;> simp

@[simp] theorem State.endRound_frame (s : State) (d : Tick) :
    (s.endRound d).pending = s.pending
      ∧ (s.endRound d).line = s.line
      ∧ (s.endRound d).tx = s.tx
      ∧ (s.endRound d).replica = s.replica
      ∧ (s.endRound d).claims = s.claims
      ∧ (s.endRound d).member = s.member
      ∧ (s.endRound d).config = s.config := by
  unfold State.endRound
  simp only
  split <;> simp

@[simp] theorem State.stationClear_frame (s : State) (ev : EventRecord) :
    (s.stationClear ev).pending = s.pending
      ∧ (s.stationClear ev).config = s.config
      ∧ (s.stationClear ev).line.delivery = s.line.delivery := by simp [State.stationClear]

@[simp] theorem State.leaveEnds_frame (s : State) (tag : Byte) :
    (s.leaveEnds tag).pending = s.pending
      ∧ (s.leaveEnds tag).config = s.config
      ∧ (s.leaveEnds tag).line.delivery = s.line.delivery := by simp [State.leaveEnds]

@[simp] theorem State.leavingEnds_frame (s : State) :
    (s.leavingEnds).pending = s.pending
      ∧ (s.leavingEnds).config = s.config
      ∧ (s.leavingEnds).line.delivery = s.line.delivery := by simp [State.leavingEnds]

@[simp] theorem State.evict_frame (s : State) :
    (s.evict).pending = s.pending
      ∧ (s.evict).config = s.config
      ∧ (s.evict).line.delivery = s.line.delivery := by simp [State.evict]

@[simp] theorem State.joinFails_frame (s : State) (d : Byte) :
    (s.joinFails d).pending = s.pending
      ∧ (s.joinFails d).config = s.config
      ∧ (s.joinFails d).line.delivery = s.line.delivery := by simp [State.joinFails]

@[simp] theorem State.abandonEnds_frame (s : State) :
    (s.abandonEnds).pending = s.pending
      ∧ (s.abandonEnds).config = s.config
      ∧ (s.abandonEnds).line.delivery = s.line.delivery := by simp [State.abandonEnds]

@[simp] theorem State.queueRevokes_frame (s : State) (l : List (Nat × Holder)) :
    (s.queueRevokes l).pending = s.pending
      ∧ (s.queueRevokes l).line = s.line
      ∧ (s.queueRevokes l).claims = s.claims
      ∧ (s.queueRevokes l).member = s.member
      ∧ (s.queueRevokes l).timebase = s.timebase
      ∧ (s.queueRevokes l).config = s.config
      ∧ (s.queueRevokes l).host = s.host := by
  induction l generalizing s with
  | nil => simp [State.queueRevokes]
  | cons a l ih =>
    obtain ⟨r, h⟩ := a
    simp only [State.queueRevokes]
    split
    · simp only [ih]
      simp
    · simp

@[simp] theorem State.serviceRevocations_frame (s : State) :
    (s.serviceRevocations).pending = s.pending
      ∧ (s.serviceRevocations).line = s.line
      ∧ (s.serviceRevocations).claims = s.claims
      ∧ (s.serviceRevocations).member = s.member
      ∧ (s.serviceRevocations).timebase = s.timebase
      ∧ (s.serviceRevocations).config = s.config
      ∧ (s.serviceRevocations).host = s.host := by
  unfold State.serviceRevocations
  repeat' split
  all_goals simp

@[simp] theorem State.enterLeaving_frame (s : State) (t : Byte) :
    (s.enterLeaving t).pending = s.pending
      ∧ (s.enterLeaving t).line = s.line
      ∧ (s.enterLeaving t).replica = s.replica
      ∧ (s.enterLeaving t).claims = s.claims
      ∧ (s.enterLeaving t).timebase = s.timebase
      ∧ (s.enterLeaving t).config = s.config
      ∧ (s.enterLeaving t).host = s.host := by simp [State.enterLeaving]

@[simp] theorem State.enterMute_frame (s : State) (d : Byte) (n : Nat) :
    (s.enterMute d n).pending = s.pending
      ∧ (s.enterMute d n).config = s.config
      ∧ (s.enterMute d n).line.delivery = s.line.delivery := by
  unfold State.enterMute
  simp only
  split <;> simp

@[simp] theorem State.enterOnline_frame (s : State) :
    (s.enterOnline).pending = s.pending
      ∧ (s.enterOnline).line = s.line
      ∧ (s.enterOnline).claims = s.claims
      ∧ (s.enterOnline).timebase = s.timebase
      ∧ (s.enterOnline).config = s.config := by simp [State.enterOnline]

@[simp] theorem State.joinGroup_frame (s : State) :
    (s.joinGroup).pending = s.pending
      ∧ (s.joinGroup).line = s.line
      ∧ (s.joinGroup).replica = s.replica
      ∧ (s.joinGroup).claims = s.claims
      ∧ (s.joinGroup).timebase = s.timebase
      ∧ (s.joinGroup).config = s.config
      ∧ (s.joinGroup).host = s.host := by simp [State.joinGroup]

@[simp] theorem State.failAttempt_frame (s : State) (r : FailReason) :
    (s.failAttempt r).pending = s.pending
      ∧ (s.failAttempt r).line = s.line
      ∧ (s.failAttempt r).replica = s.replica
      ∧ (s.failAttempt r).claims = s.claims
      ∧ (s.failAttempt r).timebase = s.timebase
      ∧ (s.failAttempt r).config = s.config
      ∧ (s.failAttempt r).host = s.host := by simp [State.failAttempt]

@[simp] theorem State.closeAttempt_frame (s : State) (r : FailReason) :
    (s.closeAttempt r).pending = s.pending
      ∧ (s.closeAttempt r).config = s.config
      ∧ (s.closeAttempt r).line.delivery = s.line.delivery := by
  unfold State.closeAttempt
  split <;> simp

@[simp] theorem State.dropStream_frame (s : State) :
    (s.dropStream).pending = s.pending
      ∧ (s.dropStream).line = s.line
      ∧ (s.dropStream).replica = s.replica
      ∧ (s.dropStream).claims = s.claims
      ∧ (s.dropStream).timebase = s.timebase
      ∧ (s.dropStream).config = s.config
      ∧ (s.dropStream).host = s.host := by simp [State.dropStream]

@[simp] theorem State.closeAdmission_frame (s : State) (p : Station) :
    (s.closeAdmission p).pending = s.pending
      ∧ (s.closeAdmission p).line = s.line
      ∧ (s.closeAdmission p).replica = s.replica
      ∧ (s.closeAdmission p).claims = s.claims
      ∧ (s.closeAdmission p).timebase = s.timebase
      ∧ (s.closeAdmission p).config = s.config
      ∧ (s.closeAdmission p).host = s.host := by
  unfold State.closeAdmission
  split
  · simp
  · simp only
    repeat' split
    all_goals simp

@[simp] theorem State.removeDeclines_frame (s : State) (j : Station) :
    (s.removeDeclines j).pending = s.pending
      ∧ (s.removeDeclines j).line = s.line
      ∧ (s.removeDeclines j).replica = s.replica
      ∧ (s.removeDeclines j).claims = s.claims
      ∧ (s.removeDeclines j).member = s.member
      ∧ (s.removeDeclines j).timebase = s.timebase
      ∧ (s.removeDeclines j).config = s.config
      ∧ (s.removeDeclines j).host = s.host := by simp [State.removeDeclines]

@[simp] theorem State.captureAndAdmit_frame (s : State) (a : Admission) (t : Tick) :
    (s.captureAndAdmit a t).pending = s.pending
      ∧ (s.captureAndAdmit a t).line = s.line
      ∧ (s.captureAndAdmit a t).replica = s.replica
      ∧ (s.captureAndAdmit a t).claims = s.claims
      ∧ (s.captureAndAdmit a t).timebase = s.timebase
      ∧ (s.captureAndAdmit a t).config = s.config
      ∧ (s.captureAndAdmit a t).host = s.host := by simp [State.captureAndAdmit]

@[simp] theorem State.openAsAdmitter_frame (s : State) (a : Admission) (t : Tick) :
    (s.openAsAdmitter a t).pending = s.pending
      ∧ (s.openAsAdmitter a t).line = s.line
      ∧ (s.openAsAdmitter a t).replica = s.replica
      ∧ (s.openAsAdmitter a t).claims = s.claims
      ∧ (s.openAsAdmitter a t).timebase = s.timebase
      ∧ (s.openAsAdmitter a t).config = s.config
      ∧ (s.openAsAdmitter a t).host = s.host := by
  unfold State.openAsAdmitter
  simp only
  split <;> simp

@[simp] theorem State.nextStreamFrame_frame (s : State) :
    (s.nextStreamFrame).pending = s.pending
      ∧ (s.nextStreamFrame).line = s.line
      ∧ (s.nextStreamFrame).replica = s.replica
      ∧ (s.nextStreamFrame).claims = s.claims
      ∧ (s.nextStreamFrame).timebase = s.timebase
      ∧ (s.nextStreamFrame).config = s.config
      ∧ (s.nextStreamFrame).host = s.host := by
  unfold State.nextStreamFrame
  repeat' split
  all_goals simp

@[simp] theorem State.takeLease_frame (s : State) (o : LeaseResult) :
    (s.takeLease o).pending = s.pending
      ∧ (s.takeLease o).line = s.line
      ∧ (s.takeLease o).member = s.member
      ∧ (s.takeLease o).timebase = s.timebase
      ∧ (s.takeLease o).config = s.config := by simp [State.takeLease]

@[simp] theorem State.finishApplication_frame (s : State) (b : Bool) :
    (s.finishApplication b).pending = s.pending
      ∧ (s.finishApplication b).line = s.line
      ∧ (s.finishApplication b).claims = s.claims
      ∧ (s.finishApplication b).member = s.member
      ∧ (s.finishApplication b).timebase = s.timebase
      ∧ (s.finishApplication b).config = s.config
      ∧ (s.finishApplication b).host = s.host := by
  unfold State.finishApplication
  simp only
  split <;> simp

@[simp] theorem State.liveClaim_frame (s : State) (d : Delivered) (r : ResNo) (w : Bool) (m : BitVec 2) (t : Word16) :
    (s.liveClaim d r w m t).pending = s.pending
      ∧ (s.liveClaim d r w m t).line = s.line
      ∧ (s.liveClaim d r w m t).member = s.member
      ∧ (s.liveClaim d r w m t).timebase = s.timebase
      ∧ (s.liveClaim d r w m t).config = s.config := by simp [State.liveClaim]

@[simp] theorem State.liveDrop_frame (s : State) (d : Delivered) (r : ResNo) (n : Word16) :
    (s.liveDrop d r n).pending = s.pending
      ∧ (s.liveDrop d r n).line = s.line
      ∧ (s.liveDrop d r n).member = s.member
      ∧ (s.liveDrop d r n).timebase = s.timebase
      ∧ (s.liveDrop d r n).config = s.config := by simp [State.liveDrop]

@[simp] theorem State.liveExtend_frame (s : State) (d : Delivered) (r : ResNo) (n t : Word16) :
    (s.liveExtend d r n t).pending = s.pending
      ∧ (s.liveExtend d r n t).line = s.line
      ∧ (s.liveExtend d r n t).member = s.member
      ∧ (s.liveExtend d r n t).timebase = s.timebase
      ∧ (s.liveExtend d r n t).config = s.config := by simp [State.liveExtend]

@[simp] theorem State.liveWithdraw_frame (s : State) (d : Delivered) (r : ResNo) :
    (s.liveWithdraw d r).pending = s.pending
      ∧ (s.liveWithdraw d r).line = s.line
      ∧ (s.liveWithdraw d r).member = s.member
      ∧ (s.liveWithdraw d r).timebase = s.timebase
      ∧ (s.liveWithdraw d r).config = s.config := by simp [State.liveWithdraw]

@[simp] theorem State.liveRevoke_frame (s : State) (d : Delivered) (r : ResNo) (h : Station) (n : Word16) :
    (s.liveRevoke d r h n).pending = s.pending
      ∧ (s.liveRevoke d r h n).line = s.line
      ∧ (s.liveRevoke d r h n).member = s.member
      ∧ (s.liveRevoke d r h n).timebase = s.timebase
      ∧ (s.liveRevoke d r h n).config = s.config := by simp [State.liveRevoke]

@[simp] theorem State.peerGone_frame (s : State) (d : Delivered) (p : Station) (x : Byte) (b : Bool) :
    (s.peerGone d p x b).pending = s.pending
      ∧ (s.peerGone d p x b).line = s.line
      ∧ (s.peerGone d p x b).timebase = s.timebase
      ∧ (s.peerGone d p x b).config = s.config := by
  unfold State.peerGone
  simp only
  split <;> simp

@[simp] theorem State.peerQuit_frame (s : State) (d : Delivered) (b : Bool) :
    (s.peerQuit d b).pending = s.pending
      ∧ (s.peerQuit d b).line = s.line
      ∧ (s.peerQuit d b).timebase = s.timebase
      ∧ (s.peerQuit d b).config = s.config := by
  unfold State.peerQuit
  repeat' split
  all_goals simp

@[simp] theorem State.ownQuit_frame (s : State) (d : Delivered) :
    (s.ownQuit d).pending = s.pending
      ∧ (s.ownQuit d).config = s.config
      ∧ (s.ownQuit d).line.delivery = s.line.delivery := by
  unfold State.ownQuit
  repeat' split
  all_goals simp

@[simp] theorem State.liveQuit_frame (s : State) (d : Delivered) (b : Bool) :
    (s.liveQuit d b).pending = s.pending
      ∧ (s.liveQuit d b).config = s.config
      ∧ (s.liveQuit d b).line.delivery = s.line.delivery := by
  unfold State.liveQuit
  repeat' split
  all_goals simp

@[simp] theorem State.settleDepart_frame (s : State) (d : Delivered) (p : Station) :
    (s.settleDepart d p).pending = s.pending
      ∧ (s.settleDepart d p).line = s.line
      ∧ (s.settleDepart d p).replica = s.replica
      ∧ (s.settleDepart d p).claims = s.claims
      ∧ (s.settleDepart d p).timebase = s.timebase
      ∧ (s.settleDepart d p).config = s.config
      ∧ (s.settleDepart d p).host = s.host := by
  unfold State.settleDepart
  simp only
  split <;> simp

@[simp] theorem State.liveDepart_frame (s : State) (d : Delivered) (p : Station) (b : Bool) :
    (s.liveDepart d p b).pending = s.pending
      ∧ (s.liveDepart d p b).line = s.line
      ∧ (s.liveDepart d p b).timebase = s.timebase
      ∧ (s.liveDepart d p b).config = s.config := by
  unfold State.liveDepart
  repeat' split
  all_goals simp

@[simp] theorem State.liveApply_frame (s : State) (d : Delivered) (i p : Word16) :
    (s.liveApply d i p).pending = s.pending
      ∧ (s.liveApply d i p).line = s.line
      ∧ (s.liveApply d i p).replica = s.replica
      ∧ (s.liveApply d i p).claims = s.claims
      ∧ (s.liveApply d i p).timebase = s.timebase
      ∧ (s.liveApply d i p).config = s.config
      ∧ (s.liveApply d i p).host = s.host := by
  unfold State.liveApply
  split
  · simp
  · split
    · split <;> simp
    · simp only
      split <;> simp

@[simp] theorem State.streamed_frame (s : State) (d : Delivered) :
    (s.streamed d).pending = s.pending
      ∧ (s.streamed d).line = s.line
      ∧ (s.streamed d).replica = s.replica
      ∧ (s.streamed d).claims = s.claims
      ∧ (s.streamed d).timebase = s.timebase
      ∧ (s.streamed d).config = s.config
      ∧ (s.streamed d).host = s.host := by
  unfold State.streamed
  simp only
  split <;> simp

@[simp] theorem State.liveAdmit_frame (s : State) (d : Delivered) (j : Station) (i : Word16) :
    (s.liveAdmit d j i).pending = s.pending
      ∧ (s.liveAdmit d j i).line = s.line
      ∧ (s.liveAdmit d j i).claims = s.claims
      ∧ (s.liveAdmit d j i).timebase = s.timebase
      ∧ (s.liveAdmit d j i).config = s.config
      ∧ (s.liveAdmit d j i).host = s.host := by
  unfold State.liveAdmit
  repeat' split
  all_goals simp

@[simp] theorem State.liveSnapshot_frame (s : State) (d : Delivered) (j : Station) :
    (s.liveSnapshot d j).pending = s.pending
      ∧ (s.liveSnapshot d j).line = s.line
      ∧ (s.liveSnapshot d j).claims = s.claims
      ∧ (s.liveSnapshot d j).timebase = s.timebase
      ∧ (s.liveSnapshot d j).config = s.config
      ∧ (s.liveSnapshot d j).host = s.host := by
  unfold State.liveSnapshot
  repeat' split
  all_goals simp

@[simp] theorem State.liveSnapEnd_frame (s : State) (d : Delivered) (j : Station) :
    (s.liveSnapEnd d j).pending = s.pending
      ∧ (s.liveSnapEnd d j).line = s.line
      ∧ (s.liveSnapEnd d j).claims = s.claims
      ∧ (s.liveSnapEnd d j).timebase = s.timebase
      ∧ (s.liveSnapEnd d j).config = s.config := by
  unfold State.liveSnapEnd
  simp only
  split_ifs <;> simp

@[simp] theorem State.liveDecline_frame (s : State) (d : Delivered) :
    (s.liveDecline d).pending = s.pending
      ∧ (s.liveDecline d).line = s.line
      ∧ (s.liveDecline d).replica = s.replica
      ∧ (s.liveDecline d).claims = s.claims
      ∧ (s.liveDecline d).timebase = s.timebase
      ∧ (s.liveDecline d).config = s.config
      ∧ (s.liveDecline d).host = s.host := by simp [State.liveDecline]

@[simp] theorem State.liveFound_frame (s : State) :
    (s.liveFound).pending = s.pending
      ∧ (s.liveFound).line = s.line
      ∧ (s.liveFound).tx = s.tx
      ∧ (s.liveFound).claims = s.claims
      ∧ (s.liveFound).member = s.member
      ∧ (s.liveFound).timebase = s.timebase
      ∧ (s.liveFound).config = s.config
      ∧ (s.liveFound).host = s.host := by simp [State.liveFound]

@[simp] theorem State.sampleBeacon_frame (s : State) (d : Delivered) (b : BeaconBody) :
    (s.sampleBeacon d b).pending = s.pending
      ∧ (s.sampleBeacon d b).line = s.line
      ∧ (s.sampleBeacon d b).tx = s.tx
      ∧ (s.sampleBeacon d b).replica = s.replica
      ∧ (s.sampleBeacon d b).claims = s.claims
      ∧ (s.sampleBeacon d b).config = s.config
      ∧ (s.sampleBeacon d b).host = s.host := by
  unfold State.sampleBeacon
  simp only
  repeat' split
  all_goals simp

@[simp] theorem State.compareDigest_frame (s : State) (d : Delivered) (b : BeaconBody) (x : Bool) :
    (s.compareDigest d b x).pending = s.pending
      ∧ (s.compareDigest d b x).line = s.line
      ∧ (s.compareDigest d b x).tx = s.tx
      ∧ (s.compareDigest d b x).replica = s.replica
      ∧ (s.compareDigest d b x).claims = s.claims
      ∧ (s.compareDigest d b x).timebase = s.timebase
      ∧ (s.compareDigest d b x).config = s.config := by
  unfold State.compareDigest
  simp only
  repeat' split
  all_goals simp

@[simp] theorem State.abandon_frame (s : State) :
    (s.abandon).pending = s.pending
      ∧ (s.abandon).line = s.line
      ∧ (s.abandon).replica = s.replica
      ∧ (s.abandon).claims = s.claims
      ∧ (s.abandon).timebase = s.timebase
      ∧ (s.abandon).config = s.config
      ∧ (s.abandon).host = s.host := by
  unfold State.abandon
  simp only
  repeat' split
  all_goals simp

@[simp] theorem State.unknownBeacon_frame (s : State) (b : BeaconBody) :
    (s.unknownBeacon b).pending = s.pending
      ∧ (s.unknownBeacon b).line = s.line
      ∧ (s.unknownBeacon b).replica = s.replica
      ∧ (s.unknownBeacon b).claims = s.claims
      ∧ (s.unknownBeacon b).timebase = s.timebase
      ∧ (s.unknownBeacon b).config = s.config
      ∧ (s.unknownBeacon b).host = s.host := by
  unfold State.unknownBeacon
  repeat' split
  all_goals simp

@[simp] theorem State.liveBeacon_frame (s : State) (d : Delivered) (b : BeaconBody) (x : Bool) :
    (s.liveBeacon d b x).pending = s.pending
      ∧ (s.liveBeacon d b x).line = s.line
      ∧ (s.liveBeacon d b x).replica = s.replica
      ∧ (s.liveBeacon d b x).claims = s.claims
      ∧ (s.liveBeacon d b x).config = s.config := by
  unfold State.liveBeacon
  repeat' split
  all_goals simp

@[simp] theorem State.liveEffects_frame (s : State) (d : Delivered) (b : Bool) :
    (s.liveEffects d b).pending = s.pending
      ∧ (s.liveEffects d b).config = s.config
      ∧ (s.liveEffects d b).line.delivery = s.line.delivery := by
  unfold State.liveEffects
  split <;> simp

@[simp] theorem State.applyLive_frame (s : State) (d : Delivered) (b : Bool) :
    (s.applyLive d b).pending = s.pending
      ∧ (s.applyLive d b).config = s.config
      ∧ (s.applyLive d b).line.delivery = s.line.delivery := by simp [State.applyLive]

@[simp] theorem State.becomeFounder_frame (s : State) (t : Tick) :
    (s.becomeFounder t).pending = s.pending
      ∧ (s.becomeFounder t).line = s.line
      ∧ (s.becomeFounder t).tx = s.tx
      ∧ (s.becomeFounder t).claims = s.claims
      ∧ (s.becomeFounder t).timebase = s.timebase
      ∧ (s.becomeFounder t).config = s.config
      ∧ (s.becomeFounder t).host = s.host := by simp [State.becomeFounder]

@[simp] theorem State.listenFrame_frame (s : State) (d : Delivered) :
    (s.listenFrame d).pending = s.pending
      ∧ (s.listenFrame d).line = s.line
      ∧ (s.listenFrame d).claims = s.claims
      ∧ (s.listenFrame d).timebase = s.timebase
      ∧ (s.listenFrame d).config = s.config
      ∧ (s.listenFrame d).host = s.host := by
  unfold State.listenFrame State.listenFound State.listenBeacon
  repeat' split
  all_goals simp

@[simp] theorem State.beginAttempt_frame (s : State) (t : Tick) :
    (s.beginAttempt t).pending = s.pending
      ∧ (s.beginAttempt t).line = s.line
      ∧ (s.beginAttempt t).tx = s.tx
      ∧ (s.beginAttempt t).replica = s.replica
      ∧ (s.beginAttempt t).claims = s.claims
      ∧ (s.beginAttempt t).timebase = s.timebase
      ∧ (s.beginAttempt t).config = s.config
      ∧ (s.beginAttempt t).host = s.host := by simp [State.beginAttempt]

@[simp] theorem State.joinerDeclined_frame (s : State) (r : Byte) :
    (s.joinerDeclined r).pending = s.pending
      ∧ (s.joinerDeclined r).config = s.config
      ∧ (s.joinerDeclined r).line.delivery = s.line.delivery := by
  unfold State.joinerDeclined
  repeat' split
  all_goals simp

@[simp] theorem State.joinerAdmitted_frame (s : State) (a : Attempt) (d : Delivered) (c : Word16) (n : Byte) (x : BitVec 32) :
    (s.joinerAdmitted a d c n x).pending = s.pending
      ∧ (s.joinerAdmitted a d c n x).line = s.line
      ∧ (s.joinerAdmitted a d c n x).replica = s.replica
      ∧ (s.joinerAdmitted a d c n x).claims = s.claims
      ∧ (s.joinerAdmitted a d c n x).timebase = s.timebase
      ∧ (s.joinerAdmitted a d c n x).config = s.config
      ∧ (s.joinerAdmitted a d c n x).host = s.host := by
  unfold State.joinerAdmitted
  repeat' split
  all_goals simp

@[simp] theorem State.joinerSnapshot_frame (s : State) (a : Attempt) (ap : AdmissionPart) (p : SnapshotPart) :
    (s.joinerSnapshot a ap p).pending = s.pending
      ∧ (s.joinerSnapshot a ap p).line = s.line
      ∧ (s.joinerSnapshot a ap p).replica = s.replica
      ∧ (s.joinerSnapshot a ap p).claims = s.claims
      ∧ (s.joinerSnapshot a ap p).timebase = s.timebase
      ∧ (s.joinerSnapshot a ap p).config = s.config
      ∧ (s.joinerSnapshot a ap p).host = s.host := by
  unfold State.joinerSnapshot
  repeat' split
  all_goals simp

@[simp] theorem State.replay_frame (s : State) (ds : List Delivered) :
    (s.replay ds).pending = s.pending
      ∧ (s.replay ds).config = s.config
      ∧ (s.replay ds).line.delivery = s.line.delivery := by
  induction ds generalizing s with
  | nil => simp [State.replay]
  | cons d ds ih => simpa [State.replay] using ih (s.applyLive d true)

@[simp] theorem State.completeJoin_frame (s : State) (a : Attempt) (ap : AdmissionPart) (b : Rebuild) (t : Tick) :
    (s.completeJoin a ap b t).pending = s.pending
      ∧ (s.completeJoin a ap b t).config = s.config
      ∧ (s.completeJoin a ap b t).line.delivery = s.line.delivery := by simp [State.completeJoin]

@[simp] theorem State.joinerSnapEnd_frame (s : State) (a : Attempt) (ap : AdmissionPart) (x : Word16) (t : Tick) :
    (s.joinerSnapEnd a ap x t).pending = s.pending
      ∧ (s.joinerSnapEnd a ap x t).config = s.config
      ∧ (s.joinerSnapEnd a ap x t).line.delivery = s.line.delivery := by
  unfold State.joinerSnapEnd
  repeat' split
  all_goals simp

@[simp] theorem State.storeFrame_frame (s : State) (a : Attempt) (d : Delivered) :
    (s.storeFrame a d).pending = s.pending
      ∧ (s.storeFrame a d).line = s.line
      ∧ (s.storeFrame a d).replica = s.replica
      ∧ (s.storeFrame a d).claims = s.claims
      ∧ (s.storeFrame a d).timebase = s.timebase
      ∧ (s.storeFrame a d).config = s.config
      ∧ (s.storeFrame a d).host = s.host := by
  unfold State.storeFrame
  repeat' split
  all_goals simp

@[simp] theorem State.attemptFrame_frame (s : State) (a : Attempt) (d : Delivered) :
    (s.attemptFrame a d).pending = s.pending
      ∧ (s.attemptFrame a d).config = s.config
      ∧ (s.attemptFrame a d).line.delivery = s.line.delivery := by
  unfold State.attemptFrame
  repeat' split
  all_goals simp

@[simp] theorem State.joinerFrame_frame (s : State) (d : Delivered) :
    (s.joinerFrame d).pending = s.pending
      ∧ (s.joinerFrame d).config = s.config
      ∧ (s.joinerFrame d).line.delivery = s.line.delivery := by
  unfold State.joinerFrame
  repeat' split
  all_goals simp

@[simp] theorem State.leavingFrame_frame (s : State) (d : Delivered) :
    (s.leavingFrame d).pending = s.pending
      ∧ (s.leavingFrame d).config = s.config
      ∧ (s.leavingFrame d).line.delivery = s.line.delivery := by
  unfold State.leavingFrame
  repeat' split
  all_goals simp

@[simp] theorem State.queueBeacon_frame (s : State) :
    (s.queueBeacon).pending = s.pending
      ∧ (s.queueBeacon).line = s.line
      ∧ (s.queueBeacon).replica = s.replica
      ∧ (s.queueBeacon).claims = s.claims
      ∧ (s.queueBeacon).member = s.member
      ∧ (s.queueBeacon).timebase = s.timebase
      ∧ (s.queueBeacon).config = s.config
      ∧ (s.queueBeacon).host = s.host := by simp [State.queueBeacon]

@[simp] theorem State.beaconDelivered_frame (s : State) (d : Delivered) :
    (s.beaconDelivered d).pending = s.pending
      ∧ (s.beaconDelivered d).line = s.line
      ∧ (s.beaconDelivered d).replica = s.replica
      ∧ (s.beaconDelivered d).claims = s.claims
      ∧ (s.beaconDelivered d).timebase = s.timebase
      ∧ (s.beaconDelivered d).config = s.config
      ∧ (s.beaconDelivered d).host = s.host := by
  unfold State.beaconDelivered
  repeat' split
  all_goals simp

@[simp] theorem State.ownDelivered_frame (s : State) (d : Delivered) :
    (s.ownDelivered d).pending = s.pending
      ∧ (s.ownDelivered d).line = s.line
      ∧ (s.ownDelivered d).replica = s.replica
      ∧ (s.ownDelivered d).claims = s.claims
      ∧ (s.ownDelivered d).timebase = s.timebase
      ∧ (s.ownDelivered d).config = s.config
      ∧ (s.ownDelivered d).host = s.host := by
  unfold State.ownDelivered
  repeat' split
  all_goals simp

@[simp] theorem State.routeFrame_frame (s : State) (d : Delivered) :
    (s.routeFrame d).pending = s.pending
      ∧ (s.routeFrame d).config = s.config
      ∧ (s.routeFrame d).line.delivery = s.line.delivery := by
  unfold State.routeFrame
  repeat' split
  all_goals simp

@[simp] theorem State.receive_frame (s : State) (d : Delivered) :
    (s.receive d).pending = s.pending
      ∧ (s.receive d).config = s.config
      ∧ (s.receive d).line.delivery = s.line.delivery := by
  unfold State.receive
  simp only
  repeat' split
  all_goals simp

@[simp] theorem State.frameDiscarded_frame (s : State) (id : FrameId) :
    (s.frameDiscarded id).pending = s.pending
      ∧ (s.frameDiscarded id).config = s.config
      ∧ (s.frameDiscarded id).line.delivery = s.line.delivery := by
  unfold State.frameDiscarded State.ownDiscarded
  split <;> (try split) <;> simp

@[simp] theorem State.attemptLost_frame (s : State) :
    (s.attemptLost).pending = s.pending
      ∧ (s.attemptLost).config = s.config
      ∧ (s.attemptLost).line.delivery = s.line.delivery := by
  unfold State.attemptLost State.beaconReturned State.orphanDiscarded
  simp only
  split <;> (try split) <;> simp

@[simp] theorem State.settleRate_frame (s : State) :
    (s.settleRate).pending = s.pending
      ∧ (s.settleRate).tx = s.tx
      ∧ (s.settleRate).replica = s.replica
      ∧ (s.settleRate).claims = s.claims
      ∧ (s.settleRate).member = s.member
      ∧ (s.settleRate).timebase = s.timebase
      ∧ (s.settleRate).config = s.config
      ∧ (s.settleRate).host = s.host := by
  unfold State.settleRate
  repeat' split
  all_goals simp

@[simp] theorem State.configureLine_frame (s : State) :
    (s.configureLine).pending = s.pending
      ∧ (s.configureLine).tx = s.tx
      ∧ (s.configureLine).replica = s.replica
      ∧ (s.configureLine).claims = s.claims
      ∧ (s.configureLine).member = s.member
      ∧ (s.configureLine).timebase = s.timebase
      ∧ (s.configureLine).config = s.config
      ∧ (s.configureLine).host = s.host := by
  unfold State.configureLine
  repeat' split
  all_goals simp

@[simp] theorem State.countOwnVeto_frame (s : State) (b : Bool) :
    (s.countOwnVeto b).pending = s.pending
      ∧ (s.countOwnVeto b).tx = s.tx
      ∧ (s.countOwnVeto b).replica = s.replica
      ∧ (s.countOwnVeto b).claims = s.claims
      ∧ (s.countOwnVeto b).member = s.member
      ∧ (s.countOwnVeto b).timebase = s.timebase
      ∧ (s.countOwnVeto b).config = s.config
      ∧ (s.countOwnVeto b).host = s.host := by
  unfold State.countOwnVeto
  repeat' split
  all_goals simp

@[simp] theorem State.countIssuedVeto_frame (s : State) (b : Bool) :
    (s.countIssuedVeto b).pending = s.pending
      ∧ (s.countIssuedVeto b).tx = s.tx
      ∧ (s.countIssuedVeto b).replica = s.replica
      ∧ (s.countIssuedVeto b).claims = s.claims
      ∧ (s.countIssuedVeto b).member = s.member
      ∧ (s.countIssuedVeto b).timebase = s.timebase
      ∧ (s.countIssuedVeto b).config = s.config
      ∧ (s.countIssuedVeto b).host = s.host := by
  unfold State.countIssuedVeto
  repeat' split
  all_goals simp

@[simp] theorem State.muteOnOwn_frame (s : State) (b : Bool) :
    (s.muteOnOwn b).pending = s.pending
      ∧ (s.muteOnOwn b).config = s.config
      ∧ (s.muteOnOwn b).line.delivery = s.line.delivery := by
  unfold State.muteOnOwn
  repeat' split
  all_goals simp

@[simp] theorem State.muteOnIssued_frame (s : State) (b : Bool) :
    (s.muteOnIssued b).pending = s.pending
      ∧ (s.muteOnIssued b).config = s.config
      ∧ (s.muteOnIssued b).line.delivery = s.line.delivery := by
  unfold State.muteOnIssued
  repeat' split
  all_goals simp

/-! ## The delivery order (R158) -/

/-- Handing the frames of a prefix of the delivery order inward leaves the rest of it. -/
theorem State.foldl_deliver_delivery (s : State) (ds rest : List Delivered) (h : s.line.delivery = ds ++ rest) :
    (ds.foldl (fun t d => t.deliver d.frame.kind) s).line.delivery = rest := by
  induction ds generalizing s with
  | nil => exact h
  | cons d ds ih =>
    refine ih (s.deliver d.frame.kind) ?_
    simp [State.deliver, h]

/-- No frame waits once all have been handed inward. -/
@[simp] theorem State.allDelivered_delivery (s : State) : s.allDelivered.line.delivery = [] :=
  s.foldl_deliver_delivery s.line.delivery [] (by simp)

end Sys2Proof.Machine
end

