-- ==== Sys2Proof/Tests/Slice0.lean ====
section
/-! SUPPORT. Tests of the model against the spec's examples, and for every statement with hypotheses a state and operands that meet them all, clause by
clause. -/

namespace Sys2Proof.Tests

open Sys2Proof Sys2Proof.Machine

/-! ## Small states -/

/-- Station 5 with two resources, a beacon period of 40 LTU, misses 3 and a guard of 2 LTU. -/
def cfg : ConfigRecord :=
  { station := 5, rate := 1, beaconPeriod := 40, misses := 3, guard := 2, lastResource := 1, groupKey := 7, profile := 0xBEEF }

/-- The Host Port after a device reset, every event appended at once (log 7). -/
def port : HostPort := { HostPort.reset with later := [] }
/-- The state after a device reset with that Host Port. -/
def blank : State := { State.reset with host := port }

/-- A configured station in a state, its counter at 100000, on an idle line, with no group. -/
def station (st : StationState) : State :=
  { blank with
    config := some cfg
    line := { LineController.reset with phase := .idle, rate := some 1 }
    timebase := { Timebase.reset with counter := 100000, roundDeadline := some 100000 }
    member := { Membership.reset with state := st, incarnation := some 9, joinTag := some 0x77 } }

/-- An entry of a station that is ONLINE and was heard. -/
def onlineEntry : RosterEntry := { RosterEntry.clear with state := .online, lastHeard := some 99000, presence := some 100000 }

/-- A member of a group with stations 2, 5 and 9 ONLINE and 11 JOINING. -/
def live (st : StationState) : State :=
  { station st with
    replica := { Replica.clear with live := true, seq := 400 }
    member := { (station st).member with
      rosterLive := true
      roster := (((Membership.reset.roster.set 2 onlineEntry).set 5 onlineEntry).set 9 onlineEntry).set 11 { onlineEntry with state := .joining } } }

/-- A command record with a passing check byte. -/
def record (kind tag p1 p2 p3 p4 p5 : Byte) : CommandRecord :=
  { kind := kind, tag := tag, p1 := p1, p2 := p2, p3 := p3, p4 := p4, p5 := p5, check := 0xFF#8 - (kind + tag + p1 + p2 + p3 + p4 + p5) }

def withRecord (s : State) (r : CommandRecord) : State := { s with host := { s.host with commands := [r] } }
def withFrame (s : State) (d : Delivered) : State := { s with line := { s.line with delivery := [d] } }
def withEntry (s : State) (r : Fin 64) (e : ResourceEntry) : State := { s with replica := { s.replica with table := s.replica.table.set r e } }
def withSlot (s : State) (sl : Slot) : State := { s with claims := s.claims.set 0 sl }
def withTx (s : State) (es : List TxEntry) : State := { s with tx := { s.tx with entries := es } }
def withDecode (s : State) (d : FrameDecode) : State := { s with line := { s.line with phase := .inFrame, decode := some d } }
def withPeer (s : State) (p : Station) (e : RosterEntry) : State := { s with member := { s.member with roster := s.member.roster.set p e } }
def withOwn (s : State) (k : OwnKind) : State := { s with member := { s.member with own := some { kind := k, withdrawn := false, next := none } } }
def withEvents (s : State) (n : Nat) : State :=
  { s with host := { s.host with events := List.replicate n { kind := .granted, tag := 1, subject := 0, grant := 3, detail := 0, count := 0 }, attnN := n = 0 } }

/-- A frame of station 9, latched at 100000. -/
def from9 (f : Frame) : Delivered := { sender := 9, frame := f, stamp := 100000, own := false }
/-- A frame of this station, latched at 100000. -/
def from5 (f : Frame) : Delivered := { sender := 5, frame := f, stamp := 100000, own := true }

def entryOf (f : Frame) : TxEntry := TxEntry.fresh f
def flyingOf (f : Frame) : TxEntry := { TxEntry.fresh f with inFlight := true }

/-- A holder entry of a term of 100, granted at 100000. -/
def holderOf (p : Station) (g : Word16) (v : Option RevocationState) : Holder :=
  { station := p, grant := g, term := 100, deadline := 106528, revocation := v }
def waiterOf (p : Station) (m : Mode) : Waiter := { station := p, mode := m, term := 100 }

/-- Resource held EXCLUSIVE by station 9 under grant number 13, station 2 waiting SHARED. -/
def heldBy9 : ResourceEntry := { state := .exclusive, counter := 13, holders := [holderOf 9 13 (some .watching)], waiters := [waiterOf 2 .shared] }

/-- A slot of resource 0. -/
def slotOf (st : SlotState) (cmd : Option (PendingKind × Byte)) (g : Option Word16) (m : Option FrameMarker) : Slot :=
  { Slot.clear with state := st, term := 100, tag := 0x41, command := cmd, grant := g, deadline := g.map (fun _ => 100000), marker := m }
def marker (k : LeaseKind) : Option FrameMarker := some { kind := k, withdrawn := false, dropFollows := false }

/-- A transaction that the port has taken. -/
def transaction : Transaction :=
  { standing := .taken, portByte := 0, access := none, mosi := [], answer := [], place := false, record := false, sdo := [] }
def withTransaction (s : State) (t : Transaction) : State := { s with host := { s.host with transaction := some t } }
/-- CS_N has fallen. -/
def selected (s : State) : State := withTransaction s { transaction with portByte := s.host.portByte }
/-- The access byte and these bytes have been clocked in, and these are still to be clocked out. -/
def clocking (s : State) (access : Byte) (mosi answer : List Byte) : State :=
  withTransaction s { transaction with access := some access, mosi := mosi, answer := answer }
/-- A TAKE_EVENT that clocks out a record, `n` of its bytes gone. -/
def taking (s : State) (n : Nat) : State :=
  withTransaction s { transaction with access := some 0x02, mosi := List.replicate n 0, answer := [0], record := true }

/-- The field of a next state, if the step answers one. -/
def nextOf {α : Type} (o : Host.Outcome State Fault Refusal) (f : State → α) : Option α :=
  match o with
  | .next t => some (f t)
  | .fault _ => none
  | .refused _ => none

/-! ## Witnesses: the hypotheses of the statements -/

set_option Elab.async false

/-! StepRunsTheFrontCommand -/
theorem witness_step :
    { station .offline with pending := [.fineTick, .join] }.pending = [.fineTick, .join] := by decide +kernel

/-! DeviceResetLeavesTheStatedValues -/
theorem witness_deviceReset_transaction :
    (clocking (station .online) 0x01 [1, 2] []).host.transaction = some { transaction with access := some 0x01, mosi := [1, 2] } ∧ (station .online).host.transaction = none := by decide +kernel

/-! FineTickCounterCountsFineTicksOnly -/
theorem witness_fineTickCounter :
    nextOf (exec .fineTick (station .offline)) (fun t => t.timebase.counter) = some 100001 ∧ (station .offline).host.rstN = true := by decide +kernel

/-! FineTickLengthFollowsTheTrim -/
theorem witness_fineTickLength :
    { Timebase.reset with trim := 511, residue := 255 }.Sound ∧ (station .online).host.rstN = true := by
  simp only [Timebase.Sound]
  decide +kernel
theorem witness_fineTickInReset :
    { blank with host := { port with rstN := false } }.host.rstN = false := by decide +kernel

/-! CountersStayInTheirRanges -/
theorem witness_timebaseSound :
    (station .online).timebase.Sound ∧ (station .online).VetoSound ∧ nextOf (exec .fineTick (station .online)) (fun t => t.timebase.counter) = some 100001 := by
  simp only [Timebase.Sound, State.VetoSound]
  decide +kernel

/-! PutCommandAcceptsOrDiscards -/
theorem witness_put_access :
    (selected (station .online)).host.transaction = some transaction ∧ transaction.standing = .taken ∧ transaction.access = none := by decide +kernel
theorem witness_put_byte :
    (clocking (station .online) 0x01 [1] [0xA5]).host.transaction = some { transaction with access := some 0x01, mosi := [1], answer := [0xA5] } := by decide +kernel
theorem witness_put_rise :
    (withTransaction (station .online) { transaction with access := some 0x01, mosi := [1, 2, 3, 4, 5, 6, 7, 8], place := true }).host.transaction.map (fun t => (t.standing, t.access)) = some (.taken, some 0x01) := by decide +kernel

/-! TakeEventRemovesTheHeadAndReportsDrops -/
theorem witness_take_access :
    (selected (withEvents (station .online) 1)).host.transaction = some { transaction with portByte := 1 } := by decide +kernel
theorem witness_take_eighth :
    (taking (withEvents (station .online) 1) 7).host.transaction = some { transaction with access := some 0x02, mosi := List.replicate 7 0, answer := [0], record := true } ∧ (withEvents (station .online) 1).host.events ≠ [] := by decide +kernel
theorem witness_take_other :
    (List.replicate 6 (0 : Byte)).length ≠ 7 ∨ transaction.record = false := by decide +kernel
theorem witness_take_rise :
    (taking (withEvents (station .online) 1) 8).host.transaction.map (fun t => t.access) = some (some 0x02) := by decide +kernel

/-! StatusBlockHasItsLayout -/
theorem witness_status_access :
    (selected (live .online)).host.transaction = some transaction := by decide +kernel
theorem witness_status_byte :
    (clocking (live .online) 0x03 [] [0x65]).host.transaction = some { transaction with access := some 0x03, answer := [0x65] } := by decide +kernel

/-! ViewsHaveTheirLayouts -/
theorem witness_views :
    64 ≤ (0x40 : Byte).toNat ∧ (0x3F : Byte).toNat = (63 : Fin 64).val ∧ 16 ≤ (0x10 : Byte).toNat ∧ (0x0F : Byte).toNat = (15 : Station).val ∧ (clocking (live .online) 0x04 [] []).host.transaction = some { transaction with access := some 0x04 } ∧ (live .online).member.rosterLive = true ∧ (station .online).member.rosterLive = false := by decide +kernel

/-! TransactionsFollowTheirEdges -/
theorem witness_edges_fall :
    (0x06 : Byte) ≠ 0x01 ∧ (0x06 : Byte) ≠ 0x02 ∧ (0x06 : Byte) ≠ 0x03 ∧ (0x06 : Byte) ≠ 0x04 ∧ (0x06 : Byte) ≠ 0x05 ∧ (0x06 : Byte) ≠ 0x0F ∧ (station .online).host.transaction = none := by decide +kernel
theorem witness_edges_rise :
    (selected (station .online)).host.transaction = some transaction ∧ (transaction.standing = .taken ∧ transaction.access = none) := by decide +kernel
theorem witness_edges_void :
    (withTransaction (station .online) { transaction with standing := .void }).host.transaction = some { transaction with standing := .void } ∧ (Standing.void ≠ .taken ∧ Standing.cutOff ≠ .taken) := by decide +kernel
theorem witness_edges_quiet :
    (clocking (station .online) 0x04 [1] [2]).host.transaction = some { transaction with access := some 0x04, mosi := [1], answer := [2] } ∧ (0x04 : Byte) ≠ 0x0F := by decide +kernel

/-! PortResetEmptiesTheQueues -/
theorem witness_portReset :
    (clocking (live .online) 0x0F [] []).host.transaction = some { transaction with access := some 0x0F } := by decide +kernel

/-! HostPortStaysSound -/
theorem witness_hostPortSound :
    (withEvents (station .online) 32).host.Sound ∧ (withTransaction { station .online with host := { port with commands := List.replicate 3 (record 0x02 1 0 0 0 0 0) } } { transaction with access := some 0x01, place := true }).host.Sound ∧ nextOf (exec .fineTick (withEvents (station .online) 32)) (fun t => t.host.events.length) = some 32 ∧ nextOf (step (withEvents (station .online) 32)) (fun t => t.host.events.length) = some 32 := by
  simp only [HostPort.Sound]
  decide +kernel

/-! RaisedEventsReachTheHostPort -/
theorem witness_append_room :
    (withEvents (station .online) 31).host.events.length < 32 := by decide +kernel
theorem witness_append_full :
    32 ≤ (withEvents (station .online) 32).host.events.length := by decide +kernel
theorem witness_raise_later :
    (({ (withEvents (station .online) 1).host with later := [true], raised := [] }) : HostPort).later = [true] := by decide +kernel
theorem witness_raise_now :
    (({ (withEvents (station .online) 1).host with later := [false, true], raised := [] }) : HostPort).later = [false, true] := by decide +kernel
theorem witness_raise_unset :
    (({ (withEvents (station .online) 1).host with later := [], raised := [] }) : HostPort).later = [] := by decide +kernel
theorem witness_idle_nothing :
    (station .online).pending = [] ∧ (station .online).host.raised = [] := by decide +kernel
theorem witness_idle_brings :
    ({ station .online with host := { (withEvents (station .online) 1).host with later := [true], raised := [{ kind := .lost, tag := 1, subject := 0, grant := 3, detail := 1, count := 0 }, { kind := .lost, tag := 1, subject := 0, grant := 3, detail := 1, count := 0 }] } }).host.raised = [{ kind := .lost, tag := 1, subject := 0, grant := 3, detail := 1, count := 0 }, { kind := .lost, tag := 1, subject := 0, grant := 3, detail := 1, count := 0 }] := by decide +kernel

/-! FailedChecksRefuseTheRecord -/
theorem witness_wrongState_configure :
    (record 0x01 0x21 0x53 0x41 40 2 7).validKind = some .configure ∧ CommandKind.takenIn .configure .online = false := by decide +kernel
theorem witness_wrongState_join :
    (record 0x02 0x21 0 0 0 0 0).validKind = some .join ∧ CommandKind.takenIn .join .listen = false := by decide +kernel
theorem witness_wrongState_leave :
    (record 0x03 0x21 0 0 0 0 0).validKind = some .leave ∧ CommandKind.takenIn .leave .offline = false := by decide +kernel
theorem witness_wrongState_acquire :
    (record 0x10 0x21 0 1 0 100 0).validKind = some .acquire ∧ CommandKind.takenIn .acquire .mute = false := by decide +kernel
theorem witness_outOfRange_configure :
    (record 0x01 0x21 0x53 0x41 19 2 7).validKind = some .configure ∧ CommandKind.takenIn .configure .offline = true ∧ (19 : Byte).toNat < 20 := by decide +kernel
theorem witness_outOfRange_join :
    (record 0x02 0x21 0 0 0 0 1).validKind = some .join ∧ CommandKind.takenIn .join .offline = true ∧ (1 : Byte) ≠ 0 := by decide +kernel
theorem witness_outOfRange_leave :
    (record 0x03 0x00 0 0 0 0 0).validKind = some .leave ∧ CommandKind.takenIn .leave .listen = true ∧ (0 : Byte) = 0 := by decide +kernel
theorem witness_outOfRange_acquire :
    (record 0x10 0x21 0 1 0 8 0).validKind = some .acquire ∧ CommandKind.takenIn .acquire .online = true ∧ 0 * 256 + 8 ≤ 4 * cfg.guard.toNat := by decide +kernel
theorem witness_outOfRange_release :
    (record 0x11 0x21 2 0 0 0 0).validKind = some .release ∧ CommandKind.takenIn .release .online = true ∧ cfg.lastResource.toNat + 1 ≤ (2 : Byte).toNat := by decide +kernel
theorem witness_outOfRange_renew :
    (record 0x12 0x21 0 1 0 100 0).validKind = some .renew ∧ CommandKind.takenIn .renew .online = true ∧ (1 : Byte) ≠ 0 := by decide +kernel
theorem witness_outOfRange_cancel :
    (record 0x13 0x21 0 0 0 0 9).validKind = some .cancel ∧ CommandKind.takenIn .cancel .online = true ∧ (9 : Byte) ≠ 0 := by decide +kernel
theorem witness_badRecord_check :
    (withRecord (station .online) { record 0x02 0x21 0 0 0 0 0 with check := 0 }).host.commands = [{ record 0x02 0x21 0 0 0 0 0 with check := 0 }] ∧ (0x02 : Byte) + 0x21 + 0 + 0 + 0 + 0 + 0 + 0 ≠ 0xFF := by decide +kernel
theorem witness_badRecord_kind :
    (record 0x04 0x21 0 0 0 0 0).checkOk = true ∧ (0x04 : Byte) ∉ [0x01#8, 0x02#8, 0x03#8, 0x10#8, 0x11#8, 0x12#8, 0x13#8] := by decide +kernel

/-! SlotChecksRefuseByTheTable -/
theorem witness_acquire_slots :
    (record 0x10 0x21 0 1 0 100 0).validKind = some .acquire ∧ (record 0x10 0x21 0 1 0 100 0).inRange cfg .acquire = true ∧ (∀ i : Fin 8, ({ station .online with claims := Vector.replicate 8 (slotOf .held none (some 3) none) }.claims[i]).state ≠ .empty) := by decide +kernel
theorem witness_acquire_already :
    (record 0x10 0x21 0 1 0 100 0).validKind = some .acquire ∧ (record 0x10 0x21 0 1 0 100 0).inRange cfg .acquire = true ∧ (withSlot (station .online) (slotOf .held none (some 3) none)).findSlot 0 = some 0 := by decide +kernel
theorem witness_slot_none :
    (record 0x11 0x21 0 0 0 0 0).validKind = some .release ∧ (record 0x11 0x21 0 0 0 0 0).inRange cfg .release = true ∧ (record 0x12 0x21 0 0 0 100 0).validKind = some .renew ∧ (record 0x12 0x21 0 0 0 100 0).inRange cfg .renew = true ∧ (record 0x13 0x21 0 0 0 0 0).validKind = some .cancel ∧ (record 0x13 0x21 0 0 0 0 0).inRange cfg .cancel = true ∧ (station .online).findSlot 0 = none := by decide +kernel
theorem witness_slot_notHeld :
    (withSlot (station .online) (slotOf .waiting none none none)).findSlot 0 = some 0 := by decide +kernel
theorem witness_slot_busy :
    (withSlot (station .online) (slotOf .lapsed none none none)).findSlot 0 = some 0 := by decide +kernel
theorem witness_slot_notWaiting :
    (withSlot (station .online) (slotOf .held none none none)).findSlot 0 = some 0 := by decide +kernel
theorem witness_slot_cancelBusy :
    (withSlot (station .online) (slotOf .sending (some (.cancel, 7)) none none)).findSlot 0 = some 0 ∧ (slotOf .sending (some (.cancel, 7)) none none).cancelPending = true := by decide +kernel

/-! ConfigureAndJoinPrepareTheStation -/
theorem witness_configure :
    (record 0x01 0x21 0x53 0x41 40 2 7).validKind = some .configure ∧ (record 0x01 0x21 0x53 0x41 40 2 7).inRange cfg .configure = true ∧ State.reset.member.state = .unconfigured := by decide +kernel
theorem witness_join :
    (record 0x02 0x21 0 0 0 0 0).validKind = some .join ∧ (record 0x02 0x21 0 0 0 0 0).inRange cfg .join = true ∧ (station .offline).member.state = .offline := by decide +kernel

/-! LeaveOfAMemberQueuesQuit -/
theorem witness_leave_member :
    (record 0x03 0x21 0 0 0 0 0).validKind = some .leave ∧ (record 0x03 0x21 0 0 0 0 0).inRange cfg .leave = true ∧ (live .online).member.state = .online ∧ (live .online).member.own = none := by decide +kernel
theorem witness_leave_joiner :
    { station .joining with member := { (station .joining).member with attempt := some { stamp := 0, accepted := 0, catchup := [], admission := none, phase := .awaiting }, own := some { kind := .quit, withdrawn := false, next := none } } }.member.state = .joining ∧ { station .joining with member := { (station .joining).member with attempt := some { stamp := 0, accepted := 0, catchup := [], admission := none, phase := .awaiting }, own := some { kind := .quit, withdrawn := false, next := none } } }.member.attempt.isSome = true ∧ { station .joining with member := { (station .joining).member with attempt := some { stamp := 0, accepted := 0, catchup := [], admission := none, phase := .awaiting }, own := some { kind := .quit, withdrawn := false, next := none } } }.member.own = some { kind := .quit, withdrawn := false, next := none } := by decide +kernel
theorem witness_leave_follows :
    ({ live .founding with member := { (live .founding).member with own := some { kind := .found, withdrawn := true, next := none } } }).member.state = .founding ∧ ({ live .founding with member := { (live .founding).member with own := some { kind := .found, withdrawn := true, next := none } } }).member.own = some { kind := .found, withdrawn := true, next := none } := by decide +kernel

/-! LeaveBeforeMembershipOrInMute -/
theorem witness_leave_mute :
    (record 0x03 0x21 0 0 0 0 0).validKind = some .leave ∧ (record 0x03 0x21 0 0 0 0 0).inRange cfg .leave = true ∧ (live .mute).member.state = .mute := by decide +kernel
theorem witness_leave_listen :
    (station .listen).member.state = .listen ∧ (station .listen).member.own = none := by decide +kernel
theorem witness_leave_found_queued :
    (withTx (withOwn (station .listen) .found) [entryOf (.found 9 0xBEEF)]).member.own = some { kind := .found, withdrawn := false, next := none } ∧ ((withTx (withOwn (station .listen) .found) [entryOf (.found 9 0xBEEF)]).tx.withdraw .found).1 ≠ .onLine := by decide +kernel
theorem witness_leave_found_flying :
    (withTx (withOwn (station .listen) .found) [flyingOf (.found 9 0xBEEF)]).member.own = some { kind := .found, withdrawn := false, next := none } ∧ ((withTx (withOwn (station .listen) .found) [flyingOf (.found 9 0xBEEF)]).tx.withdraw .found).1 = .onLine := by decide +kernel

/-! LeaseCommandsQueueTheirFrames -/
theorem witness_acquire :
    (record 0x10 0x21 0 1 0 100 0).validKind = some .acquire ∧ (record 0x10 0x21 0 1 0 100 0).inRange cfg .acquire = true ∧ (live .online).emptySlot = some 0 ∧ (live .online).findSlot 0 = none := by decide +kernel
theorem witness_renew :
    (record 0x12 0x21 0 0 0 100 0).validKind = some .renew ∧ (record 0x12 0x21 0 0 0 100 0).inRange cfg .renew = true ∧ (withSlot (live .online) (slotOf .held none (some 13) none)).findSlot 0 = some 0 ∧ (slotOf .held none (some 13) none).grant = some 13 := by decide +kernel
theorem witness_release :
    (record 0x11 0x21 0 0 0 0 0).validKind = some .release ∧ (record 0x11 0x21 0 0 0 0 0).inRange cfg .release = true ∧ (withSlot (live .online) (slotOf .held none (some 13) none)).findSlot 0 = some 0 := by decide +kernel
theorem witness_cancel_waiting :
    (record 0x13 0x21 0 0 0 0 0).validKind = some .cancel ∧ (record 0x13 0x21 0 0 0 0 0).inRange cfg .cancel = true ∧ (withSlot (live .online) (slotOf .waiting none none none)).findSlot 0 = some 0 := by decide +kernel
theorem witness_cancel_queued :
    (withTx (withSlot (live .online) (slotOf .sending none none (marker .claim))) [entryOf (.claim 0 false 1 100)]).findSlot 0 = some 0 ∧ ((withTx (withSlot (live .online) (slotOf .sending none none (marker .claim))) [entryOf (.claim 0 false 1 100)]).tx.withdraw (.claim 0)).1 = .removed := by decide +kernel
theorem witness_cancel_flying :
    (withTx (withSlot (live .online) (slotOf .sending none none (marker .claim))) [flyingOf (.claim 0 false 1 100)]).findSlot 0 = some 0 ∧ ((withTx (withSlot (live .online) (slotOf .sending none none (marker .claim))) [flyingOf (.claim 0 false 1 100)]).tx.withdraw (.claim 0)).1 = .onLine := by decide +kernel

/-! TransmitQueueStaysSound -/
theorem witness_txSound :
    (withTx (station .online) [entryOf (.drop 0 4), flyingOf (.beacon ⟨1, 0, 0, 0, 0, 0⟩)]).tx.Sound := by
  refine ⟨by decide +kernel, ?_, by decide +kernel, by decide +kernel, by decide +kernel⟩
  intro g
  cases g <;> decide +kernel

/-! TransmitQueueAnswersItsRequests -/
theorem witness_insert_room :
    ([entryOf .quit, entryOf (.drop 1 4)].filter (fun e => !e.orphan && e.frame.kind.group == FrameKind.claim.group)).length < FrameKind.claim.group.quota ∧ (∀ y ∈ [entryOf .quit, entryOf (.drop 1 4)], y.orphan = false → y.frame.id ≠ Frame.id (.claim 0 false 1 100)) := by decide +kernel
theorem witness_insert_same :
    ¬ ∀ y ∈ [entryOf .quit, entryOf (.drop 1 4)], y.orphan = false → y.frame.id ≠ Frame.id (.drop 1 5) := by decide +kernel
theorem witness_withdraw_queued :
    ((entryOf (.claim 0 false 1 100)).orphan = false ∧ (entryOf (.claim 0 false 1 100)).inFlight = false) ∧ (∀ y ∈ [entryOf .quit] ++ [entryOf (.drop 1 4)], y.orphan = false → y.frame.id ≠ (entryOf (.claim 0 false 1 100)).frame.id) := by decide +kernel
theorem witness_withdraw_onLine :
    (flyingOf (.claim 0 false 1 100)).inFlight = true := by decide +kernel
theorem witness_withdraw_refills :
    (entryOf (.decline ⟨4, 0, 1⟩)).inFlight = false ∧ (∀ y ∈ [entryOf .quit] ++ [entryOf (.drop 1 4)], y.orphan = false → y.frame.kind ≠ .decline) := by decide +kernel
theorem witness_refresh_queued :
    (entryOf (.beacon ⟨7, 0, 0, 0, 0, 0xBEEF⟩)).frame = .beacon ⟨7, 0, 0, 0, 0, 0xBEEF⟩ := by decide +kernel
theorem witness_refresh_onLine :
    (flyingOf (.beacon ⟨7, 0, 0, 0, 0, 0xBEEF⟩)).inFlight = true := by decide +kernel
theorem witness_handDecline_replaces :
    (entryOf (.decline ⟨4, 0, 1⟩)).frame.id = .decline 4 := by decide +kernel
theorem witness_handDecline_flying :
    (flyingOf (.decline ⟨4, 0, 1⟩)).inFlight = true := by decide +kernel
theorem witness_withdraw_notFound :
    ∀ y ∈ [entryOf .quit, entryOf (.drop 1 4)], y.orphan = false → y.frame.id ≠ .claim 0 := by decide +kernel
theorem witness_refresh_notFound :
    ∀ y ∈ [entryOf .quit, entryOf (.drop 1 4)], y.orphan = false → y.frame.id ≠ .beacon := by decide +kernel
theorem witness_handDecline_place :
    (∀ y ∈ [entryOf .quit, entryOf (.drop 1 4)], y.orphan = false → y.frame.id ≠ .decline 4) ∧ (∀ y ∈ [entryOf .quit, entryOf (.drop 1 4)], y.orphan = false → y.frame.kind ≠ .decline) := by decide +kernel
theorem witness_handDecline_pends :
    (∀ y ∈ [entryOf (.decline ⟨7, 0, 1⟩)], y.orphan = false → y.frame.id ≠ .decline 4) ∧ (¬ ∀ y ∈ [entryOf (.decline ⟨7, 0, 1⟩)], y.orphan = false → y.frame.kind ≠ .decline) := by decide +kernel

/-! FrameStartSendsTheOldestOfTheLowestClass -/
theorem witness_frameStart :
    (withTx (live .online) [entryOf (.claim 0 false 1 100), entryOf (.beacon ⟨7, 0, 0, 0, 0, 0xBEEF⟩), entryOf (.drop 1 4)]).line.phase = .idle ∧ (withTx (live .online) [entryOf (.claim 0 false 1 100), entryOf (.beacon ⟨7, 0, 0, 0, 0, 0xBEEF⟩), entryOf (.drop 1 4)]).tx.Sound ∧ (∀ x ∈ [entryOf (.claim 0 false 1 100)], FrameKind.cls .beacon < x.frame.kind.cls) ∧ (∀ x ∈ [entryOf (.drop 1 4)], FrameKind.cls .beacon ≤ x.frame.kind.cls) := by
  refine ⟨rfl, ⟨by decide +kernel, ?_, by decide +kernel, by decide +kernel, by decide +kernel⟩, by decide, by decide⟩
  intro g
  cases g <;> decide +kernel
theorem witness_frameStart_delivery :
    (withFrame (withTx (live .online) [entryOf (.beacon ⟨7, 0, 0, 0, 0, 0xBEEF⟩)]) (from9 (.claim 0 false 1 100))).tx.Sound ∧ (withFrame (withTx (live .online) [entryOf (.beacon ⟨7, 0, 0, 0, 0, 0xBEEF⟩)]) (from9 (.claim 0 false 1 100))).line.delivery ≠ [] := ⟨⟨by decide +kernel, (by intro g; cases g <;> decide +kernel), by decide +kernel, by decide +kernel, by decide +kernel⟩, by decide +kernel⟩
theorem witness_frameStart_nothing :
    (station .mute).member.state = .mute := by decide +kernel
theorem witness_frameStart_busyLine :
    (withTx { station .online with line := { (station .online).line with phase := .seekingIdle } } [entryOf .quit]).line.phase ≠ .idle := by decide +kernel

/-! LostArbitrationLeavesTheSenderReceiving -/
theorem witness_arbitrationLoss :
    ((insertBits true 0 (false :: (natBits 2 (Frame.kind (.claim 0 false 1 100)).cls ++ natBits 4 (5 : Station).val))).drop 1)[3]? = some true ∧ ((withDecode (withTx (live .online) [flyingOf (.claim 0 false 1 100), entryOf (.drop 1 4)]) { role := .sender ((encodeBody 5 (.claim 0 false 1 100)).drop 1), stamp := 99999, rx := Rx.afterStart })).line.rateChange = false ∧ (∀ i < 3, ((insertBits true 0 (false :: (natBits 2 (Frame.kind (.claim 0 false 1 100)).cls ++ natBits 4 (5 : Station).val))).drop 1)[i]? = some true → [true, true, false][i]? ≠ some false) := by decide +kernel
theorem witness_arbitrationLoss_misread :
    [true, true, true] ≠ ((insertBits true 0 (false :: (natBits 2 (Frame.kind (.claim 0 false 1 100)).cls ++ natBits 4 (5 : Station).val))).drop 1).take 3 := by decide +kernel
theorem witness_arbitrationLoss_inserted :
    ((insertBits true 0 (false :: (natBits 2 FrameKind.quit.cls ++ natBits 4 (1 : Station).val))).drop 1)[5]? = some true ∧ ((insertBits true 0 (false :: (natBits 2 FrameKind.quit.cls ++ natBits 4 (1 : Station).val))).drop 1)[6]? = some true := by decide +kernel

/-! AcceptedFrameIsTheFrameSent -/
theorem witness_frameAccepted :
    (Frame.wellFormed (.claim 0 false 1 100)) = true ∧ Frame.wellFormed (.snapshot 5 { index := 0, resource := 1, state := 2, counter := 9, members := List.replicate 4 { holder := true, mode := 0, station := 3, grant := 8, term := 1 } }) = true := by decide +kernel

/-! OwnAcceptedFrameAwaitsDelivery -/
theorem witness_ownAccepted :
    (Frame.wellFormed (.claim 0 false 1 100)) = true ∧ ((withDecode (withTx (live .online) [flyingOf (.claim 0 false 1 100), entryOf (.drop 1 4)]) { role := .sender ((encodeBody 5 (.claim 0 false 1 100)).drop 1), stamp := 99999, rx := Rx.afterStart })).tx.pendingDeclines = [] ∧ ((withDecode (withTx (live .online) [flyingOf (.claim 0 false 1 100), entryOf (.drop 1 4)]) { role := .sender ((encodeBody 5 (.claim 0 false 1 100)).drop 1), stamp := 99999, rx := Rx.afterStart })).replica.marked = [] ∧ ((withDecode (withTx (live .online) [flyingOf (.claim 0 false 1 100), entryOf (.drop 1 4)]) { role := .sender ((encodeBody 5 (.claim 0 false 1 100)).drop 1), stamp := 99999, rx := Rx.afterStart })).line.decode = some { role := .sender ((encodeBody 5 (.claim 0 false 1 100)).drop 1), stamp := 99999, rx := Rx.afterStart } ∧ (∀ x ∈ [] ++ [entryOf (.drop 1 4)], x.inFlight = false) := by decide +kernel

/-! VetoedFrameIsKeptOrDiscarded -/
theorem witness_ownVetoed :
    ([true, true] : List Level).length = [true, false].length ∧ (withDecode (withTx (live .online) [flyingOf (.claim 0 false 1 100), entryOf (.drop 1 4)]) { role := .sender [true, false], stamp := 99999, rx := Rx.afterStart }).member.state.offers = true ∧ (withDecode (withTx (live .online) [flyingOf (.claim 0 false 1 100), entryOf (.drop 1 4)]) { role := .sender [true, false], stamp := 99999, rx := Rx.afterStart }).line.ownVetoes < 15 ∧ (∀ k < 2, [true, false][k]? = some true → [true, true][k]? ≠ some false) := by decide +kernel
theorem witness_returned :
    ({ flyingOf (.beacon ⟨7, 0, 0, 0, 0, 0xBEEF⟩) with returnNotice := true }).returnNotice = true ∧ (∀ x ∈ [] ++ [entryOf (.drop 1 4)], x.orphan = false → x.frame.id ≠ .beacon) := by decide +kernel
theorem witness_ownVetoed_pastTheKey :
    ((((encodeBody 5 (.claim 0 false 1 100)).drop 1))[9]? = some true ∧ (((encodeBody 5 (.claim 0 false 1 100)).drop 1).set 9 false)[9]? = some false) ∧ 7 ≤ ((((encodeBody 5 (.claim 0 false 1 100)).drop 1).take 9).foldl Rx.feed Rx.afterStart).bits.length := by decide +kernel
theorem witness_lostKeyBit :
    (((encodeBody 5 (.claim 0 false 1 100)).drop 1))[0]? = some true ∧ (((encodeBody 5 (.claim 0 false 1 100)).drop 1).set 0 false)[0]? = some false ∧ ((((encodeBody 5 (.claim 0 false 1 100)).drop 1).take 0).foldl Rx.feed Rx.afterStart).bits.length < 7 := by decide +kernel
theorem witness_otherVetoed :
    (Rx.afterStart.feedAll ((encodeBody 9 .quit).drop 1)).map (fun rx => (rx.bodyDone, rx.lost)) = some (true, false) := by decide +kernel

/-! VetoThresholdsMute -/
theorem witness_sixteenthVeto :
    ({ (withDecode (withTx (live .online) [flyingOf (.claim 0 false 1 100), entryOf (.drop 1 4)]) { role := .sender [true, false], stamp := 99999, rx := Rx.afterStart }) with line := { (withDecode (withTx (live .online) [flyingOf (.claim 0 false 1 100), entryOf (.drop 1 4)]) { role := .sender [true, false], stamp := 99999, rx := Rx.afterStart }).line with ownVetoes := 15 } }).line.ownVetoes = 15 ∧ ({ (withDecode (withTx (live .online) [flyingOf (.claim 0 false 1 100), entryOf (.drop 1 4)]) { role := .sender [true, false], stamp := 99999, rx := Rx.afterStart }) with line := { (withDecode (withTx (live .online) [flyingOf (.claim 0 false 1 100), entryOf (.drop 1 4)]) { role := .sender [true, false], stamp := 99999, rx := Rx.afterStart }).line with ownVetoes := 15 } }).tx.entries = [] ++ flyingOf (.claim 0 false 1 100) :: [entryOf (.drop 1 4)] ∧ (∀ st ∈ [StationState.online, .founding, .listen, .joining, .catchup, .leaving], st.offers = true) := by decide +kernel
theorem witness_thirtySecondVeto :
    ({ (withDecode (live .online) { role := .receiver, stamp := 99999, rx := Rx.afterStart }) with line := { (withDecode (live .online) { role := .receiver, stamp := 99999, rx := Rx.afterStart }).line with issuedVetoes := 31 } }).line.issuedVetoes = 31 ∧ (Rx.afterStart.feedAll (((encodeBody 9 .quit).drop 1).set 29 true)).map (fun rx => (rx.bodyDone, rx.lost, rx.fault.isSome)) = some (true, false, true) := by decide +kernel
theorem witness_thirtySecondMiss :
    (Rx.afterStart.feedAll (List.replicate 7 true)).map (fun rx => rx.recessive) = some 7 := by decide +kernel

/-! MissedFramesDeliverNothing -/
theorem witness_missedFrame :
    (Rx.afterStart.feedAll (List.replicate 7 true)).map (fun rx => rx.recessive) = some 7 := by decide +kernel
theorem witness_missedAtWindow :
    (withDecode (station .offline) { role := .receiver, stamp := 99999, rx := Rx.afterStart }).member.state.offers = false ∧ (Rx.afterStart.feedAll (((encodeBody 9 .quit).drop 1).set 29 true)).map (fun rx => (rx.bodyDone, rx.lost, rx.fault.isSome)) = some (true, false, true) := by decide +kernel

/-! IdleAndStartBitsMoveTheLinePhase -/
theorem witness_lineIdle :
    ({ station .online with line := { (station .online).line with phase := .seekingIdle, recessiveRun := 9, endBits := 0 } }).line.phase = .seekingIdle ∧ (({ station .online with line := { (station .online).line with phase := .inFrame, recessiveRun := 9, endBits := 2 } }).line.decode = none ∧ 1 < ({ station .online with line := { (station .online).line with phase := .inFrame, recessiveRun := 9, endBits := 2 } }).line.endBits) ∧ ({ station .online with line := { (station .online).line with phase := .inFrame, recessiveRun := 9, endBits := 1 } }).line.endBits = 1 ∧ (station .online).line.phase = .idle ∧ State.reset.line.phase = .silent := by decide +kernel

/-! LeaseTableStaysSound -/
theorem witness_tableSound :
    (withEntry (live .online) 0 heldBy9).TableSound := by
  refine ⟨?_, trivial⟩
  simp only [Replica.Sound, ResourceEntry.Sound]
  decide +kernel

/-! SequenceNumberCountsEveryFrame -/
theorem witness_handedByPeer :
    (withFrame (live .online) (from9 (.claim 0 false 1 100))).HandedByPeer (from9 (.claim 0 false 1 100)) [] := ⟨rfl, rfl, rfl, rfl, by decide +kernel⟩
theorem witness_sequenceNumber :
    (withFrame (live .online) (from9 (.claim 0 false 1 100))).line.delivery = [from9 (.claim 0 false 1 100)] ∧ (live .online).replica.live = true ∧ nextOf (exec .claimFrame (withFrame (live .online) (from9 (.claim 0 false 1 100)))) (fun t => (t.replica.live, t.replica.seq)) = some (true, 401) := by decide +kernel

/-! ClaimIsGrantedDeniedOrWaits -/
theorem witness_claim_granted :
    (9 : Station) ≠ (live .online).me ∧ ((live .online).member.roster[(9 : Station)]).state = .online ∧ (0 : Fin 64).val < (live .online).cfg.resourceCount ∧ 4 * (live .online).cfg.guard.toNat < (100 : Word16).toNat ∧ ((live .online).replica.table[(0 : Fin 64)]).waiters = [] ∧ ((live .online).replica.table[(0 : Fin 64)]).state = .free ∧ ((live .online).now - (100000 + BitVec.ofNat 32 (64 * (100 + 2)))).toInt < 0 := by decide +kernel
theorem witness_claim_waits :
    ((withEntry (live .online) 0 { heldBy9 with holders := [holderOf 2 13 (some .watching)], waiters := [] }).replica.table[(0 : Fin 64)]).state = .exclusive ∧ (∀ x ∈ ((withEntry (live .online) 0 { heldBy9 with holders := [holderOf 2 13 (some .watching)], waiters := [] }).replica.table[(0 : Fin 64)]).holders, x.station ≠ 9) ∧ (withEntry (live .online) 0 { heldBy9 with holders := [holderOf 2 13 (some .watching)], waiters := [] }).replica.counts[(9 : Station)] < 8 := by decide +kernel

/-! InvalidAndStaleFramesAreCounted -/
theorem witness_stale_claim :
    (8 : Word16).toNat ≤ 4 * (live .online).cfg.guard.toNat := by decide +kernel
theorem witness_stale_drop :
    (((live .online).replica.entry 0).holders.find? (fun x => x.station == 9)).map (fun x => x.grant) ≠ some 12 := by decide +kernel
theorem witness_stale_extend :
    (((live .online).replica.entry 0).holders.find? (fun x => x.station == 9)).map (fun x => x.grant) ≠ some 12 := by decide +kernel
theorem witness_stale_withdraw :
    (live .online).cfg.resourceCount ≤ (2 : ResNo).toNat := by decide +kernel
theorem witness_stale_revoke :
    (((live .online).replica.entry 0).holders.find? (fun x => x.station == 2)).map (fun x => x.grant) ≠ some 3 := by decide +kernel
theorem witness_stale_depart :
    ((live .online).member.roster[(4 : Station)]).state = .absent := by decide +kernel
theorem witness_stale_found :
    (live .online).member.state = .online := by decide +kernel
theorem witness_stale_admit :
    (live .online).member.admission = none := by decide +kernel
theorem witness_stale_snapshot :
    (live .online).member.admission = none := by decide +kernel
theorem witness_stale_snapEnd :
    (live .online).member.admission = none := by decide +kernel
theorem witness_stale_quit :
    ((live .online).member.roster[(4 : Station)]).state = .absent := by decide +kernel
theorem witness_stale_departWithdraws :
    (withTx (live .online) [entryOf (.depart 4), entryOf (.drop 1 4)]).tx.entries.map (fun e => e.frame) = [.depart 4, .drop 1 4] ∧ ((live .online).member.roster[(9 : Station)]).state = .online := by decide +kernel
theorem witness_stale_departOfNoMember :
    ((live .online).member.roster[(4 : Station)]).state ≠ .online := by decide +kernel

/-! EndedEntryOpensTheGrantPass -/
theorem witness_endedHolding :
    heldBy9.holders.find? (fun x => x.station == 9) = some (holderOf 9 13 (some .watching)) ∧ (∀ x ∈ heldBy9.waiters, x.station ≠ (5 : Station) ∧ ((live .online).now - (100000 + BitVec.ofNat 32 (64 * (x.term.toNat + 2)))).toInt < 0) := by decide +kernel
theorem witness_withdrawnWaiter :
    (∃ x ∈ ((withEntry (live .online) 0 { heldBy9 with holders := [holderOf 2 13 (some .watching)], waiters := [waiterOf 9 .exclusive, waiterOf 11 .shared], state := .shared }).replica.table[(0 : Fin 64)]).waiters, x.station = 9) ∧ (∀ x ∈ ((withEntry (live .online) 0 { heldBy9 with holders := [holderOf 2 13 (some .watching)], waiters := [waiterOf 9 .exclusive, waiterOf 11 .shared], state := .shared }).replica.table[(0 : Fin 64)]).waiters, x.station ≠ (5 : Station) ∧ ((withEntry (live .online) 0 { heldBy9 with holders := [holderOf 2 13 (some .watching)], waiters := [waiterOf 9 .exclusive, waiterOf 11 .shared], state := .shared }).now - (100000 + BitVec.ofNat 32 (64 * (x.term.toNat + 2)))).toInt < 0) := by decide +kernel

/-! ExtendRenewsInPlace -/
theorem witness_extend :
    heldBy9.holders = [] ++ holderOf 9 13 (some .watching) :: [] ∧ ((live .online).now - (100000 + BitVec.ofNat 32 (64 * (200 + 2)))).toInt < 0 ∧ 4 * (live .online).cfg.guard.toNat < (200 : Word16).toNat := by decide +kernel

/-! ApplicationsSettleTheSlot -/
theorem witness_ownClaim :
    (withSlot (live .online) (slotOf .sending none none (marker .claim))).findSlot 0 = some 0 ∧ ((live .online).member.roster[(from5 .quit).sender]).state = .online ∧ (live .online).replica.marked = [] := by decide +kernel
theorem witness_ownDrop :
    (holderOf 5 13 none).station = (live .online).me ∧ (slotOf .releasing (some (.release, 0x42)) (some 13) (marker .drop)).grant = some 13 := by decide +kernel
theorem witness_ownExtend :
    (live .online).cfg.guard.toNat * 4 < (200 : Word16).toNat := by decide +kernel
theorem witness_ownWithdraw :
    (∃ x ∈ [waiterOf 5 .exclusive, waiterOf 2 .shared, waiterOf 11 .shared], x.station = (live .online).me) ∧ (∀ x ∈ [waiterOf 5 .exclusive, waiterOf 2 .shared, waiterOf 11 .shared], x.station ≠ (live .online).me → ((live .online).now - (100000 + BitVec.ofNat 32 (64 * (x.term.toNat + 2)))).toInt < 0) := by decide +kernel
theorem witness_waitingGranted :
    (holderOf 9 13 (some .watching)).station = (from9 .quit).sender ∧ (from9 .quit).sender ≠ (live .online).me := by decide +kernel

/-! RevokedHoldingIsLost -/
theorem witness_revoked :
    (withSlot (withEntry (live .online) 0 { heldBy9 with holders := [holderOf 5 13 none], waiters := [] }) (slotOf .held none (some 13) none)).findSlot 0 = some 0 ∧ ((withSlot (withEntry (live .online) 0 { heldBy9 with holders := [holderOf 5 13 none], waiters := [] }) (slotOf .held none (some 13) none)).replica.table[(0 : Fin 64)]).holders = [holderOf 5 13 none] := by decide +kernel

/-! ReportsMoveTheSlotByTheTables -/
theorem witness_slot_absent :
    (live .online).findSlot 0 = none ∧ (Report.denied 0).resource = 0 := by decide +kernel
theorem witness_slot_sending :
    (withSlot (live .online) (slotOf .sending none none (marker .claim))).findSlot 0 = some 0 ∧ ((slotOf .sending none none (marker .claim))).resource = 0 := by decide +kernel
theorem witness_slot_sending_cancel :
    (withSlot (live .online) (slotOf .sending (some (.cancel, 7)) none (some { kind := .claim, withdrawn := true, dropFollows := false }))).findSlot 0 = some 0 ∧ ((slotOf .sending (some (.cancel, 7)) none (some { kind := .claim, withdrawn := true, dropFollows := false }))).marker = (some { kind := .claim, withdrawn := true, dropFollows := false }) := by decide +kernel
theorem witness_slot_waiting :
    (withSlot (live .online) (slotOf .waiting none none none)).findSlot 0 = some 0 := by decide +kernel
theorem witness_slot_withdrawing :
    (withSlot (live .online) (slotOf .withdrawing (some (.cancel, 7)) none (marker .withdraw))).findSlot 0 = some 0 := by decide +kernel
theorem witness_slot_held :
    (withSlot (live .online) (slotOf .held none (some 13) none)).findSlot 0 = some 0 := by decide +kernel
theorem witness_slot_renewing :
    (withSlot (live .online) (slotOf .renewing (some (.renew, 7)) (some 13) (marker .extend))).findSlot 0 = some 0 ∧ ((slotOf .renewing (some (.renew, 7)) (some 13) (marker .extend))).grant = some 13 := by decide +kernel
theorem witness_slot_releasing :
    (withSlot (live .online) (slotOf .releasing (some (.release, 7)) (some 13) (marker .drop))).findSlot 0 = some 0 ∧ ((slotOf .releasing (some (.release, 7)) (some 13) (marker .drop))).grant = some 13 := by decide +kernel
theorem witness_slot_withdrawing_granted :
    (withSlot (live .online) (slotOf .withdrawing (some (.cancel, 7)) (some 13) (marker .withdraw))).findSlot 0 = some 0 ∧ ((slotOf .withdrawing (some (.cancel, 7)) (some 13) (marker .withdraw))).grant = some 13 := by decide +kernel
theorem witness_slot_withdrawing_drop :
    (withSlot (live .online) (slotOf .withdrawing (some (.cancel, 7)) (some 13) (marker .drop))).findSlot 0 = some 0 ∧ ((slotOf .withdrawing (some (.cancel, 7)) (some 13) (marker .drop))).grant = some 13 := by decide +kernel
theorem witness_slot_lapsed :
    (withSlot (live .online) (slotOf .lapsed none (some 13) (marker .drop))).findSlot 0 = some 0 ∧ ((slotOf .lapsed none (some 13) (marker .drop))).grant = some 13 := by decide +kernel
theorem witness_slot_lapsed_dropFollows :
    (withSlot (live .online) (slotOf .lapsed none (some 13) (some { kind := .extend, withdrawn := true, dropFollows := true }))).findSlot 0 = some 0 ∧ ((slotOf .lapsed none (some 13) (some { kind := .extend, withdrawn := true, dropFollows := true }))).marker = (some { kind := .extend, withdrawn := true, dropFollows := true }) := by decide +kernel
theorem witness_slot_ending :
    (withSlot (live .online) ({ slotOf .ending (some (.cancel, 7)) (some 13) (some { kind := .extend, withdrawn := true, dropFollows := false }) with answer := (some .renewLateRevoked) })).findSlot 0 = some 0 := by decide +kernel

/-! DepartureRemovesThePeer -/
theorem witness_quitOfPeer :
    ((live .online).member.roster[(9 : Station)]).state ≠ .absent ∧ (withEntry (live .online) 0 heldBy9).replica.queuedRevokesOf 9 = [] ∧ (∀ r : Fin 64, ∀ x ∈ ((withEntry (live .online) 0 heldBy9).replica.table[r]).waiters, x.station ≠ (5 : Station) ∧ ((withEntry (live .online) 0 heldBy9).now - (100000 + BitVec.ofNat 32 (64 * (x.term.toNat + 2)))).toInt < 0) := by decide +kernel
theorem witness_departWithdraws :
    (withTx (withEntry (live .online) 0 heldBy9) [entryOf (.depart 11), entryOf (.drop 1 4)]).tx.entries.map (fun e => e.frame) = [.depart 11, .drop 1 4] ∧ ((live .online).member.roster[(11 : Station)]).departQueued = false := by decide +kernel

/-! EvictionAndOwnQuitEndTheMembership -/
theorem witness_evicted :
    (live .online).member.state = .online ∧ (withFrame (live .online) (from9 (.depart 5))).line.delivery = [from9 (.depart 5)] := by decide +kernel
theorem witness_notEvicted :
    (station .listen).member.state = .listen := by decide +kernel
theorem witness_ownQuit :
    (withOwn { live .leaving with member := { (live .leaving).member with leaveTag := some 0x33 } } .quit).member.leaveTag = some 0x33 ∧ (withOwn { live .leaving with member := { (live .leaving).member with leaveTag := some 0x33 } } .quit).member.own = some { kind := .quit, withdrawn := false, next := none } ∧ (withOwn { live .leaving with member := { (live .leaving).member with leaveTag := some 0x33 } } .quit).member.orphanNote = none := by decide +kernel

/-! ListenerFoundsOrJoins -/
theorem witness_ownFound :
    (withOwn (station .listen) .found).member.own = some { kind := .found, withdrawn := false, next := none } ∧ (station .listen).member.orphanNote = none := by decide +kernel
theorem witness_foundHeard :
    (station .listen).member.own = none ∧ (0xBEEF : Word16) = (station .listen).cfg.profile := by decide +kernel
theorem witness_foreignFound :
    (0xBEEE : Word16) ≠ (station .listen).cfg.profile := by decide +kernel
theorem witness_beaconHeard :
    ((⟨1, 5, 6, 0, 0, 0xBEEF⟩ : BeaconBody).stationState = 6 ∨ (⟨1, 5, 6, 0, 0, 0xBEEF⟩ : BeaconBody).stationState = 3) ∧ (⟨1, 5, 6, 0, 0, 0xBEEF⟩ : BeaconBody).profile = (station .listen).cfg.profile := by decide +kernel
theorem witness_joinersBeacon :
    ¬ (((⟨1, 5, 4, 0, 0, 0xBEEF⟩ : BeaconBody).stationState = 6 ∨ (⟨1, 5, 4, 0, 0, 0xBEEF⟩ : BeaconBody).stationState = 3) ∧ (⟨1, 5, 4, 0, 0, 0xBEEF⟩ : BeaconBody).profile = (station .listen).cfg.profile) := by decide +kernel

/-! ApplyIsDeclinedOrOpensTheAdmission -/
theorem witness_applyMismatch :
    ((live .online).member.roster[(2 : Station)]).state = .online ∧ (∀ x : Station, x < 2 → ((live .online).member.roster[x]).state ≠ .online) := by decide +kernel
theorem witness_applyDuplicate :
    ((live .online).member.roster[(11 : Station)]).state ≠ .absent := by decide +kernel
theorem witness_applyBusy :
    ({ live .online with member := { (live .online).member with admission := some { joiner := 11, incarnation := 3, admitter := 9, capture := 390 } } }).member.admission ≠ none := by decide +kernel
theorem witness_applyOpens :
    ((live .online).member.roster[(4 : Station)]).state = .absent ∧ (2 : Station) ≠ (live .online).me := by decide +kernel
theorem witness_applyFounder :
    (withFrame (live .founding) (from9 (.apply 1 0xBEEF))).HandedToMember (from9 (.apply 1 0xBEEF)) [] := ⟨rfl, rfl, by decide, rfl, by decide +kernel⟩

/-! AdmitterCapturesAndStreams -/
theorem witness_capture :
    (((live .online).member.roster[(4 : Station)]).state = .absent ∧ (live .online).member.admission = none) ∧ ((withPeer (live .online) 2 RosterEntry.clear).member.roster[(withPeer (live .online) 2 RosterEntry.clear).me]).state = .online ∧ (∀ x : Station, x < (withPeer (live .online) 2 RosterEntry.clear).me → ((withPeer (live .online) 2 RosterEntry.clear).member.roster[x]).state ≠ .online) := by decide +kernel
theorem witness_captureParts :
    ((0 : Fin 64).val < (withPeer (live .online) 2 RosterEntry.clear).cfg.resourceCount ∧ (withPeer (live .online) 2 RosterEntry.clear).replica.table[(0 : Fin 64)] = ResourceEntry.clear) ∧ heldBy9 ≠ ResourceEntry.clear := by decide +kernel
theorem witness_streams :
    (11 : Station) ≠ (live .online).me ∧ ({ joiner := 11, incarnation := 3, admitter := 5, capture := 390 } : Admission).admitter = (live .online).me := by decide +kernel
theorem witness_streamEnds :
    ((live .online).member.roster[(11 : Station)]).state = .joining := by decide +kernel

/-! OwnApplyBeginsTheAttempt -/
theorem witness_ownApply :
    (withOwn (station .joining) .apply).member.own = some { kind := .apply, withdrawn := false, next := none } ∧ (station .joining).member.attempt = none ∧ (station .joining).member.backoff = none := by decide +kernel
theorem witness_beforeAttempt :
    (from9 (.depart 5)).own = false := by decide +kernel

/-! AwaitingJoinerIsAdmittedOrDeclined -/
theorem witness_admitted :
    ({ station .joining with member := { (station .joining).member with attempt := some { stamp := 99000, accepted := 3, catchup := [], admission := none, phase := .awaiting } } }).member.attempt = some { stamp := 99000, accepted := 3, catchup := [], admission := none, phase := .awaiting } ∧ (∀ x : Station, BitVec.ofNat 2 ((BitVec.ofNat 32 (2 * 4 ^ 12 + 4 ^ 10)).toNat / 4 ^ (15 - x.val)) ≠ 3) ∧ BitVec.ofNat 2 ((BitVec.ofNat 32 (2 * 4 ^ 12 + 4 ^ 10)).toNat / 4 ^ (15 - (5 : Station).val)) = 1 := by decide +kernel
theorem witness_admitterGone :
    ∃ d ∈ [from9 .quit], d.frame = .depart 9 ∨ (d.frame = .quit ∧ d.sender = 9) := by decide +kernel
theorem witness_admitUnusable :
    BitVec.ofNat 2 ((0 : BitVec 32).toNat / 4 ^ (15 - (5 : Station).val)) ≠ 1 ∧ (¬ ∃ d ∈ ([] : List Delivered), d.frame = .depart 9 ∨ (d.frame = .quit ∧ d.sender = 9)) := by decide +kernel
theorem witness_declined_busy :
    (withFrame ({ station .joining with member := { (station .joining).member with attempt := some { stamp := 99000, accepted := 3, catchup := [], admission := none, phase := .awaiting } } }) (from9 (.decline ⟨5, 9, 1⟩))).line.delivery = [from9 (.decline ⟨5, 9, 1⟩)] := by decide +kernel
theorem witness_declined_mismatch :
    (withFrame ({ station .joining with member := { (station .joining).member with attempt := some { stamp := 99000, accepted := 3, catchup := [], admission := none, phase := .awaiting } } }) (from9 (.decline ⟨5, 9, 2⟩))).line.delivery = [from9 (.decline ⟨5, 9, 2⟩)] := by decide +kernel
theorem witness_declined_duplicate :
    (withFrame ({ station .joining with member := { (station .joining).member with attempt := some { stamp := 99000, accepted := 3, catchup := [], admission := none, phase := .awaiting } } }) (from9 (.decline ⟨5, 9, 3⟩))).line.delivery = [from9 (.decline ⟨5, 9, 3⟩)] := by decide +kernel
theorem witness_declined_unknown :
    (withFrame ({ station .joining with member := { (station .joining).member with attempt := some { stamp := 99000, accepted := 3, catchup := [], admission := none, phase := .awaiting } } }) (from9 (.decline ⟨5, 9, 9⟩))).line.delivery = [from9 (.decline ⟨5, 9, 9⟩)] := by decide +kernel

/-! SnapshotPartsLoadOrFail -/
theorem witness_snapshotPart :
    (({ live .catchup with replica := Replica.clear, member := { (live .catchup).member with attempt := some { stamp := 99000, accepted := 3, catchup := [], admission := some { admitter := 9, capture := 700, parts := 1, next := 0 }, phase := .collecting }, snapshot := .rebuild { table := Vector.replicate 64 SnapEntry.clear, last := none } } }).member.attempt = some { stamp := 99000, accepted := 3, catchup := [], admission := some { admitter := 9, capture := 700, parts := 1, next := 0 }, phase := .collecting } ∧ ({ live .catchup with replica := Replica.clear, member := { (live .catchup).member with attempt := some { stamp := 99000, accepted := 3, catchup := [], admission := some { admitter := 9, capture := 700, parts := 1, next := 0 }, phase := .collecting }, snapshot := .rebuild { table := Vector.replicate 64 SnapEntry.clear, last := none } } }).member.snapshot = .rebuild { table := Vector.replicate 64 SnapEntry.clear, last := none }) ∧ ((0 : Byte).toNat = ({ admitter := 9, capture := 700, parts := 1, next := 0 } : AdmissionPart).next ∧ ({ admitter := 9, capture := 700, parts := 1, next := 0 } : AdmissionPart).next < ({ admitter := 9, capture := 700, parts := 1, next := 0 } : AdmissionPart).parts) ∧ ((1 : ResNo).toNat = (1 : Fin 64).val ∧ (1 : Fin 64).val < ({ live .catchup with replica := Replica.clear, member := { (live .catchup).member with attempt := some { stamp := 99000, accepted := 3, catchup := [], admission := some { admitter := 9, capture := 700, parts := 1, next := 0 }, phase := .collecting }, snapshot := .rebuild { table := Vector.replicate 64 SnapEntry.clear, last := none } } }).cfg.resourceCount ∧ (1 : BitVec 2) = BitVec.ofNat 2 ResourceState.exclusive.code) ∧ (∀ m ∈ ([{ holder := true, mode := 0, station := 9, grant := 4, term := 137 }] : List Member), m.term ≠ 0 ∧ m.holder = true ∧ m.mode = 0) ∧ ((([{ holder := true, mode := 0, station := 9, grant := 4, term := 137 }] : List Member).map (fun m => m.station)).Nodup ∧ 0 + (([{ holder := true, mode := 0, station := 9, grant := 4, term := 137 }] : List Member).filter (fun m => m.holder)).length ≤ 1 ∧ ([{ holder := true, mode := 0, station := 9, grant := 4, term := 137 }] : List Member).filter (fun m => m.holder) ≠ []) := by decide +kernel
theorem witness_snapshotFails :
    (1 : Byte).toNat ≠ ({ admitter := 9, capture := 700, parts := 1, next := 0 } : AdmissionPart).next := by decide +kernel
theorem witness_snapshotSound :
    (({ live .catchup with replica := Replica.clear, member := { (live .catchup).member with attempt := some { stamp := 99000, accepted := 3, catchup := [], admission := some { admitter := 9, capture := 700, parts := 1, next := 0 }, phase := .collecting }, snapshot := .rebuild { table := Vector.replicate 64 SnapEntry.clear, last := none } } }).member.snapshot).Sound := by
  intro r
  simp only [SnapEntry.Sound]
  revert r
  decide +kernel
theorem witness_snapEndFails :
    ({ admitter := 9, capture := 700, parts := 1, next := 0 } : AdmissionPart).next ≠ ({ admitter := 9, capture := 700, parts := 1, next := 0 } : AdmissionPart).parts := by decide +kernel

/-! SnapEndCompletesTheJoin -/
theorem witness_snapEnd :
    digestOf (station .catchup).cfg.resourceCount (({ table := Vector.replicate 64 SnapEntry.clear, last := none } : Rebuild).table.toList.map SnapEntry.toEntry) = (digestOf 2 (List.replicate 2 ResourceEntry.clear)) ∧ ({ table := Vector.replicate 64 SnapEntry.clear, last := none } : Rebuild).lastComplete = true ∧ ((({ live .catchup with replica := Replica.clear, member := { (live .catchup).member with attempt := some { stamp := 99000, accepted := 3, catchup := [], admission := some { admitter := 9, capture := 700, parts := 0, next := 0 }, phase := .collecting }, snapshot := .rebuild { table := Vector.replicate 64 SnapEntry.clear, last := none } } }).leaseContext 99000).loadReplica { table := Vector.replicate 64 SnapEntry.clear, last := none } 704 Replica.clear).marked = [] ∧ (({ live .catchup with replica := Replica.clear, member := { (live .catchup).member with attempt := some { stamp := 99000, accepted := 3, catchup := [], admission := some { admitter := 9, capture := 700, parts := 0, next := 0 }, phase := .collecting }, snapshot := .rebuild { table := Vector.replicate 64 SnapEntry.clear, last := none } } }).member.roster[(9 : Station)]).departQueued = false := by decide +kernel
theorem witness_replayed :
    ∀ i : Fin 8, ((live .catchup).claims[i]).state = .empty := by decide +kernel
theorem witness_handedToMember :
    (withFrame (live .online) (from9 (.drop 0 13))).HandedToMember (from9 (.drop 0 13)) [] := ⟨rfl, rfl, by decide, rfl, by decide +kernel⟩

/-! StreamFramesCompleteTheAdmission -/
theorem witness_stream_decline :
    ({ live .online with member := { (live .online).member with admission := some { joiner := 11, incarnation := 3, admitter := 9, capture := 390 } } }).member.admission = some { joiner := 11, incarnation := 3, admitter := 9, capture := 390 } ∧ (({ live .online with member := { (live .online).member with admission := some { joiner := 11, incarnation := 3, admitter := 9, capture := 390 } } }).member.roster[(11 : Station)]).state = .joining ∧ (({ live .online with member := { (live .online).member with admission := some { joiner := 11, incarnation := 3, admitter := 9, capture := 390 } } }).member.roster[(9 : Station)]).departQueued = false := by decide +kernel
theorem witness_stream_end :
    (from9 (.snapEnd 11 7)).own = false := by decide +kernel

/-! BeaconSamplesRecordsAndCompares -/
theorem witness_beacon :
    ((withPeer (live .online) 9 { onlineEntry with beacon := some { number := 255, carried := 1000, received := 95904 } }).member.roster[(9 : Station)]).state = .online ∧ ((withPeer (live .online) 9 { onlineEntry with beacon := some { number := 255, carried := 1000, received := 95904 } }).member.roster[(9 : Station)]).departQueued = false := by decide +kernel

/-! FramesWithoutALiveReplica -/
theorem witness_offlineFrame :
    (station .offline).member.state = .offline := by decide +kernel
theorem witness_catchupStores :
    ({ live .catchup with replica := Replica.clear, member := { (live .catchup).member with attempt := some { stamp := 99000, accepted := 3, catchup := [], admission := some { admitter := 9, capture := 700, parts := 1, next := 0 }, phase := .collecting }, snapshot := .rebuild { table := Vector.replicate 64 SnapEntry.clear, last := none } } }).member.state = .catchup ∧ ({ stamp := 99000, accepted := 3, catchup := [], admission := some { admitter := 9, capture := 700, parts := 1, next := 0 }, phase := .collecting } : Attempt).catchup.length < 48 := by decide +kernel
theorem witness_catchupFull :
    48 ≤ ({ stamp := 99000, accepted := 3, catchup := List.replicate 48 (from9 (.withdraw 1)), admission := some { admitter := 9, capture := 700, parts := 1, next := 0 }, phase := .collecting } : Attempt).catchup.length := by decide +kernel

/-! PeerDeadlinesProposeItsEnd -/
theorem witness_replicaDeadline :
    0 ≤ ((withEntry (live .online) 0 { heldBy9 with holders := [{ holderOf 9 13 (some .watching) with deadline := 100000 }] }).now - 100000).toInt ∧ ((withEntry (live .online) 0 { heldBy9 with holders := [{ holderOf 9 13 (some .watching) with deadline := 100000 }] }).replica.table[(0 : Fin 64)]).holders.find? (fun x => x.station == 9) = some { holderOf 9 13 (some .watching) with deadline := 100000 } := by decide +kernel
theorem witness_presence :
    ((live .online).member.roster[(9 : Station)]).presence = some 100000 ∧ 0 ≤ ((live .online).now - 100000).toInt := by decide +kernel

/-! SelfExpiryLapsesTheLease -/
theorem witness_expiry_held :
    0 ≤ ((live .online).now - 100000).toInt ∧ (slotOf .held none (some 13) none).deadline = some 100000 := by decide +kernel
theorem witness_expiry_renewing :
    ((withTx (withSlot (live .online) (slotOf .renewing (some (.renew, 7)) (some 13) (marker .extend))) [entryOf (.extend 0 13 100)]).tx.withdraw (.extend 0)).1 ≠ .onLine := by decide +kernel
theorem witness_expiry_renewing_flying :
    ((withTx (withSlot (live .online) (slotOf .renewing (some (.renew, 7)) (some 13) (marker .extend))) [flyingOf (.extend 0 13 100)]).tx.withdraw (.extend 0)).1 = .onLine := by decide +kernel
theorem witness_expiry_releasing :
    (slotOf .releasing none (some 13) none).state = .releasing := by decide +kernel

/-! BeaconScheduleQueuesOrRefreshes -/
theorem witness_beacon_fresh :
    ({ live .online with member := { (live .online).member with beaconDeadline := some 99999 } }).member.beaconDeadline = some 99999 ∧ 0 ≤ (({ live .online with member := { (live .online).member with beaconDeadline := some 99999 } }).now - 99999).toInt ∧ (∀ x ∈ ({ live .online with member := { (live .online).member with beaconDeadline := some 99999 } }).tx.entries, x.orphan = false → x.frame.id ≠ .beacon) := by decide +kernel
theorem witness_beacon_queued :
    ((entryOf (.beacon ⟨7, 0, 0, 0, 0, 0xBEEF⟩)).inFlight = false ∧ (entryOf (.beacon ⟨7, 0, 0, 0, 0, 0xBEEF⟩)).orphan = false) ∧ (∀ x ∈ [entryOf .quit] ++ [entryOf (.drop 1 4)], x.orphan = false → x.frame.id ≠ .beacon) := by decide +kernel
theorem witness_beacon_flying :
    (flyingOf (.beacon ⟨7, 0, 0, 0, 0, 0xBEEF⟩)).inFlight = true := by decide +kernel

/-! JoinTimersQueueFramesOrEndFounding -/
theorem witness_listenWindow :
    0 ≤ (({ station .listen with member := { (station .listen).member with listenWindow := some 100000 } }).now - 100000).toInt ∧ ({ station .listen with member := { (station .listen).member with listenWindow := some 100000 } }).member.own = none ∧ ({ station .listen with member := { (station .listen).member with listenWindow := some 100000 } }).member.listenWindow = some 100000 := by decide +kernel
theorem witness_joinTimer :
    ({ station .joining with member := { (station .joining).member with joinTimer := some 100000, attempt := some { stamp := 99000, accepted := 3, catchup := [], admission := none, phase := .awaiting } } }).member.joinTimer = some 100000 ∧ ({ station .joining with member := { (station .joining).member with joinTimer := some 100000, attempt := some { stamp := 99000, accepted := 3, catchup := [], admission := none, phase := .awaiting } } }).member.attempt = some { stamp := 99000, accepted := 3, catchup := [], admission := none, phase := .awaiting } := by decide +kernel
theorem witness_backoff :
    ({ station .joining with member := { (station .joining).member with backoff := some 100000 } }).member.backoff = some 100000 ∧ ({ station .joining with member := { (station .joining).member with backoff := some 100000 } }).member.state = .joining := by decide +kernel
theorem witness_foundingPeriod :
    ({ live .founding with member := { (live .founding).member with foundingPeriod := some 100000 } }).member.foundingPeriod = some 100000 ∧ ({ live .founding with member := { (live .founding).member with foundingPeriod := some 100000 } }).member.abandoning = false ∧ ({ live .founding with member := { (live .founding).member with foundingPeriod := some 100000 } }).replica.marked = [] := by decide +kernel

/-! RoundEndCorrectsTheTrim -/
theorem witness_roundEndOutsideOnline :
    (station .mute).timebase.roundDeadline = some 100000 ∧ 0 ≤ ((station .mute).now - 100000).toInt := by decide +kernel
theorem witness_roundEnd :
    (station .online).timebase.roundDeadline = some 100000 ∧ 0 ≤ ((station .online).now - 100000).toInt := by decide +kernel

/-! UnreachedDeadlinesDoNotExpire -/
theorem witness_unreached :
    ∀ x, (some (100001 : Tick)) = some x → ((station .online).now - x).toInt < 0 := by intro x h; cases h; decide

/-! ## Examples of the spec, one step each -/

def event (k : EventKind) (tag subject : Byte) (grant : Word16) (detail count : Byte) : EventRecord :=
  { kind := k, tag := tag, subject := subject, grant := grant, detail := detail, count := count }

/-- The published check value of the generator of R29 with preset 0xFFFF. -/
theorem test_crc_check_value : crcBytes [0x31, 0x32, 0x33, 0x34, 0x35, 0x36, 0x37, 0x38, 0x39] = 0x29B1 := by decide +kernel

/-- R193, R149: a QUIT of station 4 up to its length field, with the inserted bit after the run of six that length 000000 completes. -/
theorem test_quit_levels :
    (encodeBody 4 .quit).take 18 = [false, false, false, false, true, false, false, false, false, true, true, false, false, false, false, false, false, true] := by
  decide +kernel

theorem test_illFormed_voidAccess : (Instr.voidAccess 0x0F .csFalls).wellFormed = false := by decide
theorem test_illFormed_frameAccepted : (Instr.frameAccepted []).wellFormed = false := by decide
theorem test_illFormed_frameVetoed : (Instr.frameVetoed ⟨List.replicate 502 true, false, true⟩).wellFormed = false := by decide +kernel
theorem test_illFormed_window : (Instr.frameVetoed ⟨[false], true, true⟩).wellFormed = false := by decide
theorem test_illFormed_arbitrationLoss : (Instr.arbitrationLoss (List.replicate 7 false)).wellFormed = false := by decide
theorem test_illFormed_missedFrame : (Instr.missedFrame []).wellFormed = false := by decide
theorem test_wellFormed_voidAccess : (Instr.voidAccess 0x06 .csFalls).wellFormed = true := by decide

/-! Clock and reset. -/

/-- R60: residue 255 plus trim 511 is 766: two cycles more and 254 left. -/
theorem test_fineTick :
    nextOf (exec .fineTick { station .online with timebase := { (station .online).timebase with trim := 511, residue := 255 } })
      (fun t => (t.timebase.counter, t.timebase.tickCycles, t.timebase.residue)) = some (100001, 258, 254) := by decide +kernel
/-- R59: nothing counts until RST_N is high again. -/
theorem test_fineTick_in_reset :
    nextOf (exec .fineTick { blank with host := { port with rstN := false } }) (fun t => (t.timebase.counter, t.member.incarnationCounter)) = some (0, 0) := by
  decide +kernel
theorem test_deviceReset :
    nextOf (exec .deviceReset (withEvents (live .online) 3)) (fun t => (t.member.state, t.host.attnN, t.host.events.length, t.line.phase, t.host.rstN)) =
      some (.unconfigured, true, 0, .silent, false) := by decide +kernel
/-- R167, R186: a transaction in progress is cut off. -/
theorem test_deviceReset_cuts_off :
    nextOf (exec .deviceReset (clocking (station .online) 0x01 [1, 2] [])) (fun t => t.host.transaction.map (fun x => (x.standing, x.mosi, x.sdo))) =
      some (some (.cutOff, [], [])) := by decide +kernel

/-! Host Port. -/

/-- R168: the response byte with three records queued, and with four. -/
theorem test_putCommand_response :
    let answered (n : Nat) := nextOf (exec (.putCommand (.byte 0x01)) (selected { station .offline with host :=
      { port with commands := List.replicate n (record 0x03 0x22 0 0 0 0 0) } })) (fun t => t.host.transaction.map (fun x => (x.answer, x.place)))
    answered 3 = some (some ([0xA5], true)) ∧ answered 4 = some (some ([0x5A], false)) := by decide +kernel
/-- R167, R168: eight bytes clocked in make a record; seven make none. -/
theorem test_putCommand_takes_effect :
    let put (n : Nat) : State := clocking (station .offline) 0x01 ((record 0x02 0x21 0 0 0 0 0).bytes.take n) []
    let ended (n : Nat) := nextOf (exec (.putCommand .csRises) { put n with host := { (put n).host with
      transaction := (put n).host.transaction.map (fun x => { x with place := true }) } }) (fun t => (t.host.commands, t.host.transaction))
    ended 8 = some ([record 0x02 0x21 0 0 0 0 0], none) ∧ ended 7 = some ([], none) := by decide +kernel

/-- 8.6, step 5: the eighth byte of a TAKE_EVENT on a full queue with two events dropped. -/
theorem test_takeEvent_overrun :
    let full : State := { withEvents (station .online) 32 with host := { (withEvents (station .online) 32).host with dropped := 2 } }
    nextOf (exec (.takeEvent (.byte 0)) (taking full 7)) (fun t => (t.host.events.length, t.host.dropped, t.host.events.getLast?.map (fun e => (e.kind, e.count)))) =
      some (32, 0, some (.overrun, 2)) := by decide +kernel
theorem test_takeEvent_latches :
    nextOf (exec (.takeEvent (.byte 0x02)) (selected (withEvents (station .online) 1))) (fun t => (t.host.events.length, t.host.transaction.map (fun x => (x.sdo, x.answer)))) =
      some (1, some ([0x01], [0x10, 0x01, 0x00, 0x00, 0x03, 0x00, 0x00, 0xEB])) := by decide +kernel

/-- R191: ONLINE is code 6, station 5; FREE with no admission and two ONLINE peers; incarnation 9; rate 1, misses 3. -/
theorem test_readStatus :
    nextOf (exec (.readStatus (.byte 0x03)) (selected (live .online))) (fun t => t.host.transaction.map (fun x => x.answer.take 9)) =
      some (some [0x65, 0x02, 0x00, 0x09, 0x43, 40, 2, 2, 7]) := by decide +kernel
/-- R181: a record appended after CS_N fell is in byte 11 and not in the port byte. -/
theorem test_readStatus_after_append :
    let s := (selected (withEvents (station .online) 1)).place { kind := .lost, tag := 1, subject := 0, grant := 3, detail := 1, count := 0 }
    nextOf (exec (.readStatus (.byte 0x03)) s) (fun t => t.host.transaction.map (fun x => (x.sdo, x.answer[11]?))) = some (some ([1], some 2)) := by decide +kernel
/-- R192: resource 0 EXCLUSIVE at 13, held by 9, waited for by 2 SHARED. -/
theorem test_readLease :
    nextOf (exec (.readLease (.byte 0)) (clocking (withEntry (live .online) 0 heldBy9) 0x04 [] [])) (fun t => t.host.transaction.map (fun x => x.answer)) =
      some (some [0, 1, 0, 13, 1, 1, 0x02, 0x00, 0x00, 0x04, 0xA2, 0, 0, 0, 0, 0]) := by decide +kernel
theorem test_readLease_own :
    nextOf (exec (.readLease (.byte 0)) (clocking (withEntry (live .online) 0 { heldBy9 with holders := [holderOf 5 13 none] }) 0x04 [] []))
      (fun t => t.host.transaction.map (fun x => x.answer.drop 11)) = some (some [0x40, 0, 13, 0, 102]) := by decide +kernel
/-- R192: station 9 ONLINE, heard 1000 fine ticks ago, less than one beacon period of 2560. -/
theorem test_readRoster :
    nextOf (exec (.readRoster (.byte 9)) (clocking (live .online) 0x05 [] [])) (fun t => t.host.transaction.map (fun x => x.answer)) =
      some (some [9, 2, 0, 0, 0, 0, 0x06, 0]) := by decide +kernel
theorem test_voidAccess :
    nextOf (exec (.voidAccess 0x7E (.byte 1)) (clocking (withEvents (station .online) 5) 0x7E [] [])) (fun t => (t.host.events.length, t.host.transaction.map (fun x => x.sdo))) =
      some (5, some [0]) := by decide +kernel
/-- R186: CS_N falls while RST_N is low. -/
theorem test_transaction_void_in_reset :
    nextOf (exec (.readStatus .csFalls) { blank with host := { port with rstN := false } }) (fun t => t.host.transaction.map (fun x => x.standing)) =
      some (some .void) := by decide +kernel
theorem test_portReset :
    nextOf (exec (.portReset .csRises) (clocking (withRecord (withEvents (station .online) 7) (record 0x02 1 0 0 0 0 0)) 0x0F [] []))
      (fun t => (t.host.commands.length, t.host.events)) = some (0, [event .portReset 0 5 7 0 1]) := by
  decide +kernel
/-- R197: the change shows before its record is queued; the record is appended at a later event of the Host Port. -/
theorem test_event_on_its_way :
    let held := withSlot (live .mute) (slotOf .held none (some 21) none)
    let s : State := { held with host := { held.host with later := [true] } }
    nextOf (exec (.selfExpiry 0) s) (fun t => ((t.claims[0]).state, t.host.events.length, t.idle.host.events)) =
      some (.lapsed, 0, [event .lost 0x41 0 21 1 0]) := by decide +kernel

/-! Command Engine. -/
theorem test_badCommandRecord :
    nextOf (exec .badCommandRecord (withRecord (station .online) { record 0x10 0x21 0 0 0 0 0 with check := 0 }))
      (fun t => t.host.events) = some [event .refused 0x21 0 0 1 0x10] := by decide +kernel
theorem test_configure :
    nextOf (exec .configure (withRecord blank (record 0x01 0x21 0x53 0x41 40 2 7)))
      (fun t => (t.member.state, t.line.phase, t.timebase.roundDeadline, t.host.events.length)) =
      some (.offline, .seekingIdle, some 20480, 1) := by decide +kernel
/-- R100: the window is (3 + 1) beacon periods of 40 LTU: 10240 fine ticks. -/
theorem test_join :
    nextOf (exec .join (withRecord (station .offline) (record 0x02 0x21 0 0 0 0 0)))
      (fun t => (t.member.state, t.member.listenWindow, t.member.incarnation, t.member.joinTag)) = some (.listen, some 110240, some 0, some 0x21) := by
  decide +kernel
/-- 10.4, last paragraph: a LEAVE taken in MUTE ends at once, LEFT counting the slot given up. -/
theorem test_leave_in_mute :
    nextOf (exec .leave (withRecord (withSlot (live .mute) (slotOf .held none (some 21) none)) (record 0x03 0x33 0 0 0 0 0)))
      (fun t => (t.member.state, t.replica.live, t.host.events)) = some (.offline, false, [event .left 0x33 5 0 0 1]) := by
  decide +kernel
theorem test_leave_online :
    nextOf (exec .leave (withRecord (live .online) (record 0x03 0x33 0 0 0 0 0)))
      (fun t => (t.member.state, t.tx.entries.map (fun e => e.frame), t.replica.live)) = some (.leaving, [.quit], true) := by decide +kernel
theorem test_acquire :
    nextOf (exec .acquire (withRecord (live .online) (record 0x10 0x41 0 0x81 1 44 0))) (fun t => (t.tx.entries.map (fun e => e.frame), (t.claims[0]).state)) =
      some ([.claim 0 true 1 300], .sending) := by decide +kernel
theorem test_release :
    nextOf (exec .release (withRecord (withSlot (live .online) (slotOf .held none (some 13) none)) (record 0x11 0x42 0 0 0 0 0)))
      (fun t => (t.tx.entries.map (fun e => e.frame), (t.claims[0]).state)) = some ([.drop 0 13], .releasing) := by decide +kernel
/-- 10.2: RENEW queues EXTEND with the holding's grant number and the new term. -/
theorem test_renew :
    nextOf (exec .renew (withRecord (withSlot (live .online) (slotOf .held none (some 17) none)) (record 0x12 0x43 0 0 0x13 0x88 0)))
      (fun t => (t.tx.entries.map (fun e => e.frame), (t.claims[0]).state)) = some ([.extend 0 17 5000], .renewing) := by decide +kernel
theorem test_cancel_before_line :
    nextOf (exec .cancel (withRecord (withTx (withSlot (live .online) (slotOf .sending none none (marker .claim))) [entryOf (.claim 0 false 1 100)]) (record 0x13 0x44 0 0 0 0 0)))
      (fun t => (t.tx.entries, t.host.events)) = some ([], [event .cancelled 0x41 0 0 0 0, event .cancelDone 0x44 0 0 1 0]) := by
  decide +kernel

/-! Group line. -/
theorem test_frameStart_by_class :
    nextOf (exec .frameStart (withTx (live .online) [entryOf (.claim 0 false 1 100), entryOf (.depart 9)])) (fun t => t.tx.entries.map (fun e => e.inFlight)) =
      some [false, true] := by decide +kernel
/-- R30, R133: a BEACON starts at the idle report, and its digest reflects a CLAIM that was accepted before it and still waits to be applied. -/
theorem test_frameStart_digest_of_accepted :
    let waiting := withFrame (withTx (live .online) [entryOf (.beacon ⟨7, 0, 0, 0, 0, 0xBEEF⟩)]) (from9 (.claim 0 false 1 100))
    nextOf (exec .frameStart waiting) (fun t => t.tx.entries.map (fun e => (e.frame, e.inFlight)))
        = nextOf (exec .claimFrame waiting) (fun t => [(.beacon ⟨7, 100000, 6, 0, t.digest, 0xBEEF⟩, true)])
      ∧ nextOf (exec .claimFrame waiting) (fun t => t.digest) ≠ some waiting.digest := by decide +kernel
/-- 10.1: stations 2 and 9 meet with keys 11 0010 and 11 1001; station 9 loses at the third key bit, of index 2. -/
theorem test_arbitrationLoss :
    nextOf (exec (.arbitrationLoss [true, true]) { withDecode (withTx (live .online) [flyingOf (.claim 5 false 2 100)])
        { role := .sender ((encodeBody 9 (.claim 5 false 2 100)).drop 1), stamp := 1, rx := Rx.afterStart } with config := some { cfg with station := 9 } })
      (fun t => (t.line.arbitrationLosses, t.tx.entries, t.line.decode.map (fun d => d.role))) = some (1, [entryOf (.claim 5 false 2 100)], some .receiver) := by
  decide +kernel
/-- R149: the key 00 0001 of station 1 has an inserted bit after the start bit and its five zeros; another sender reads dominant there. -/
theorem test_arbitrationLoss_at_inserted_bit :
    nextOf (exec (.arbitrationLoss (List.replicate 5 false)) (withDecode (withTx (live .online) [flyingOf .quit])
        { role := .sender ((encodeBody 1 .quit).drop 1), stamp := 1, rx := Rx.afterStart }))
      (fun t => (t.line.arbitrationLosses, t.line.decode.map (fun d => (d.role, d.rx.fault)))) = some (1, some (.receiver, some .insertedBit)) := by
  decide +kernel
/-- R153: of the key 11 1001 the dominant fourth bit is read recessive, and arbitration is lost at the sixth: the readback fault stays recorded. R152: a first bit
read dominant was itself the loss. -/
theorem test_readback_before_lost_arbitration :
    let s := { withDecode (withTx (live .online) [flyingOf (.claim 5 false 2 100)])
      { role := .sender ((encodeBody 9 (.claim 5 false 2 100)).drop 1), stamp := 1, rx := Rx.afterStart } with config := some { cfg with station := 9 } }
    nextOf (exec (.arbitrationLoss [true, true, true, true, false]) s) (fun t => t.line.decode.map (fun d => (d.role, d.rx.order, d.rx.fault))) =
        some (some (.receiver, [false, true, true, true, true, false, false], some .readback))
      ∧ nextOf (exec (.arbitrationLoss [false, true, true, false, false]) s) (fun t => decide (t = s)) = some true := by
  decide +kernel
/-- R152: a sender that read its first key bit, sent recessive, dominant is no sender at the window. -/
theorem test_no_veto_after_lost_key_bit :
    let body := (encodeBody 9 (.claim 5 false 2 100)).drop 1
    let s := withDecode (withTx (live .online) [flyingOf (.claim 5 false 2 100)]) { role := .sender body, stamp := 1, rx := Rx.afterStart }
    nextOf (exec (.frameVetoed ⟨body.set 0 false, false, false⟩) s) (fun t => t.line.ownVetoes) = some 0
      ∧ nextOf (exec (.frameVetoed ⟨body.set 30 !(body[30]!), false, false⟩) s) (fun t => t.line.ownVetoes) = some 1 := by
  decide +kernel
theorem test_frameAccepted :
    nextOf (exec (.frameAccepted ((encodeBody 9 (.drop 1 43)).drop 1)) (withDecode (live .online) { role := .receiver, stamp := 77, rx := Rx.afterStart }))
      (fun t => t.line.delivery) = some [{ sender := 9, frame := .drop 1 43, stamp := 77, own := false }] := by decide +kernel
/-- One payload bit read wrong: the CRC does not match, and the station drives the veto. -/
theorem test_frameVetoed_by_this_station :
    nextOf (exec (.frameVetoed ⟨((encodeBody 9 (.drop 1 43)).drop 1).set 33 true, false, false⟩) (withDecode (live .online) { role := .receiver, stamp := 77, rx := Rx.afterStart }))
      (fun t => (t.line.delivery, t.line.issuedVetoes, t.line.vetoDriven)) = some ([], 1, true) := by decide +kernel
theorem test_missedFrame :
    nextOf (exec (.missedFrame (List.replicate 7 true)) (withDecode (live .online) { role := .receiver, stamp := 77, rx := Rx.afterStart }))
      (fun t => (t.line.phase, t.line.recessiveRun, t.line.issuedVetoes)) = some (.seekingIdle, 7, 1) := by decide +kernel
/-- R148, R156: the eleventh recessive bit makes the line idle; an end field that a veto opened ends after eight bits with a run of eight. -/
theorem test_lineIdle :
    let at_ (phase : LinePhase) (run bits : Nat) : State :=
      { station .online with line := { (station .online).line with phase := phase, recessiveRun := run, endBits := bits } }
    nextOf (exec .lineIdle (at_ .seekingIdle 10 0)) (fun t => t.line.phase) = some .idle
      ∧ nextOf (exec .lineIdle (at_ .inFrame 7 1)) (fun t => (t.line.phase, t.line.recessiveRun)) = some (.seekingIdle, 8)
      ∧ nextOf (exec .lineIdle (at_ .inFrame 10 2)) (fun t => (t.line.phase, t.line.recessiveRun)) = some (.inFrame, 11) := by
  decide +kernel
theorem test_startBitRead : nextOf (exec .startBitRead (station .online)) (fun t => t.line.decode.map (fun d => (d.role, d.stamp))) = some (some (.receiver, 100000)) := by
  decide +kernel

/-! Frames. 10.1: station 6, guard 10 LTU, LOCKED, resource 5 FREE at 12. -/
def station6 : State :=
  { live .online with
    config := some { cfg with station := 6, guard := 10, lastResource := 5 }
    timebase := { (live .online).timebase with state := .locked }
    member := { (live .online).member with roster := ((Membership.reset.roster.set 2 onlineEntry).set 6 onlineEntry).set 9 onlineEntry } }

theorem test_claim_401 :
    let sending := withSlot (withEntry station6 5 { ResourceEntry.clear with counter := 12 }) { slotOf .sending none none (marker .claim) with resource := 5, term := 300 }
    nextOf (exec .claimFrame (withFrame sending { sender := 6, frame := .claim 5 false 1 300, stamp := 100000, own := true }))
      (fun t => ((t.replica.table[5]).holders.map (fun h => (h.grant, h.deadline - 100000)), (t.claims[0]).deadline, t.host.events)) =
      some ([(13, 310 * 64)], some (100000 + 290 * 64), [event .granted 0x41 5 13 0 0]) := by decide +kernel

theorem test_claim_405_denied :
    nextOf (exec .claimFrame (withFrame (withEntry station6 5 { ResourceEntry.clear with state := .shared, counter := 15, holders := [holderOf 2 14 (some .watching)] })
        { sender := 9, frame := .claim 5 true 1 300, stamp := 100000, own := false }))
      (fun t => ((t.replica.table[5]).counter, (t.replica.table[5]).waiters, t.replica.stale, t.replica.seq)) = some (15, [], 0, 401) := by decide +kernel

/-- 10.1, 404: the DROP of station 6 grants stations 2 and 9 in one pass, seen at station 2. -/
theorem test_drop_404 :
    let station2 : State := { station6 with config := some { cfg with station := 2, guard := 10, lastResource := 5 } }
    let waited := withEntry station2 5 { heldBy9 with holders := [holderOf 6 13 (some .watching)], waiters := [waiterOf 2 .shared, waiterOf 9 .shared] }
    nextOf (exec .dropFrame (withFrame waited { sender := 6, frame := .drop 5 13, stamp := 100000, own := false }))
      (fun t => ((t.replica.table[5]).state, (t.replica.table[5]).counter, (t.replica.table[5]).holders.map (fun h => (h.station, h.grant, h.deadline - 100000)))) =
      some (.shared, 15, [(2, 14, 110 * 64), (9, 15, 110 * 64)]) := by decide +kernel

/-- 1.4: the withdrawal of station 2 uncovers two SHARED waiters behind it. -/
theorem test_withdraw_shared_batch :
    let holders := [holderOf 3 40 (some .watching), holderOf 7 41 (some .watching)]
    let waiters := [waiterOf 2 .exclusive, waiterOf 5 .shared, waiterOf 11 .shared, waiterOf 6 .exclusive, waiterOf 12 .shared]
    let e : ResourceEntry := { state := .shared, counter := 41, holders := holders, waiters := waiters }
    let x : LeaseContext := { config := cfg, now := 0, time := 0 }
    ((x.applyWithdraw 2 true 0 { Replica.clear with table := Replica.clear.table.set 0 e }).replica.table[0]).holders.map (fun h => (h.station, h.grant)) =
      [(3, 40), (7, 41), (5, 42), (11, 43)] := by decide +kernel

/-- 10.2, order A: the EXTEND renews 4(17) as 4(18), WATCHING again. -/
theorem test_extend_renews :
    nextOf (exec .extendFrame (withFrame (withEntry (live .online) 0 { heldBy9 with holders := [holderOf 9 17 (some .queued)], counter := 17 }) (from9 (.extend 0 17 5000))))
      (fun t => (t.replica.table[0]).holders.map (fun h => (h.grant, h.term, h.revocation))) = some [(18, 5000, some .watching)] := by decide +kernel

/-- 10.2, order B: the REVOKE of a RENEWING holding: LOST and then RENEW_LATE, and the waiter is granted. -/
theorem test_revoke_renewing :
    let held := withEntry (live .online) 0 { heldBy9 with counter := 17, holders := [holderOf 5 17 none], waiters := [waiterOf 9 .exclusive] }
    let renewing := withTx (withSlot held (slotOf .renewing (some (.renew, 0x43)) (some 17) (marker .extend))) [entryOf (.extend 0 17 5000)]
    nextOf (exec .revokeFrame (withFrame renewing { from9 (.revoke 0 5 17) with sender := 2 }))
      (fun t => ((t.replica.table[0]).holders.map (fun h => h.grant), t.tx.entries, t.host.events)) =
      some ([18], [], [event .lost 0x41 0 17 2 0, event .renewLate 0x43 0 17 2 0]) := by decide +kernel
theorem test_revoke_stale :
    nextOf (exec .revokeFrame (withFrame (withEntry (live .online) 0 heldBy9) { from9 (.revoke 0 9 12) with sender := 2 }))
      (fun t => (t.replica.stale, (t.replica.table[0]).holders.length)) = some (1, 1) := by decide +kernel

/-- 10.4: the DEPART of station 7 seen by a peer: ABSENT, PEER_LEFT with detail DEPART and the count after the change. -/
theorem test_depart_of_peer :
    nextOf (exec .departFrame (withFrame (live .online) { from9 (.depart 9) with sender := 2 }))
      (fun t => ((t.member.roster[9]).state, t.host.events)) = some (.absent, [event .peerLeft 0 9 0 2 1]) := by
  decide +kernel
/-- R91: an own DEPART for the same station leaves the queue though its departure state is NONE; after a QUIT it stays (R90). -/
theorem test_depart_withdraws_own :
    let s := withTx (live .online) [entryOf (.depart 9)]
    nextOf (exec .departFrame (withFrame s { from9 (.depart 9) with sender := 2 })) (fun t => t.tx.entries) = some []
      ∧ nextOf (exec .quitFrame (withFrame s (from9 .quit))) (fun t => t.tx.entries.length) = some 1 := by
  decide +kernel
theorem test_quit_of_peer :
    nextOf (exec .quitFrame (withFrame (withEntry (live .online) 0 heldBy9) (from9 .quit)))
      (fun t => (t.replica.table[0]).holders.map (fun h => (h.station, h.grant))) = some [(2, 14)] := by decide +kernel
theorem test_founder :
    nextOf (exec .foundFrame (withFrame (withOwn (station .listen) .found) (from5 (.found 9 0xBEEF))))
      (fun t => (t.member.state, t.replica.live, t.replica.seq, t.member.foundingPeriod)) = some (.founding, true, 0, some 107680) := by decide +kernel

/-- 10.5, seq 1: the admission opens at the founder, with an empty capture: 0 parts. -/
theorem test_apply_opens_at_founder :
    let founder : State := { live .founding with
      replica := { (live .founding).replica with seq := 0 }
      member := { (live .founding).member with roster := Membership.reset.roster.set 5 onlineEntry } }
    nextOf (exec .applyFrame (withFrame founder { from9 (.apply 1 0xBEEF) with sender := 0 }))
      (fun t => (t.member.admission, t.tx.entries.map (fun e => e.frame))) =
      some (some { joiner := 0, incarnation := 1, admitter := 5, capture := 1 }, [.admitJoiner 0 1 1 0 (BitVec.ofNat 32 (4 ^ 15 + 2 * 4 ^ 10))]) := by decide +kernel
/-- R141, R106: an abandoning founder removes its DECLINE for the joiner and captures nothing. -/
theorem test_apply_at_abandoning_founder :
    let founder : State := withTx { live .founding with member := { (live .founding).member with
      abandoning := true, roster := Membership.reset.roster.set 5 onlineEntry } } [entryOf (.decline ⟨0, 1, 1⟩)]
    nextOf (exec .applyFrame (withFrame founder { from9 (.apply 2 0xBEEF) with sender := 0 }))
      (fun t => (t.member.admission.isSome, t.tx.entries, t.member.snapshot)) = some (true, [], .empty) := by decide +kernel
/-- A joiner whose APPLY has been accepted. -/
def awaiting : State :=
  { station .joining with member := { (station .joining).member with
      joinTimer := some 100000
      attempt := some { stamp := 99000, accepted := 0, catchup := [], admission := none, phase := .awaiting } } }

/-- 10.3, seq 701: ADMIT moves the joiner to CATCHUP, counted. -/
theorem test_admit :
    nextOf (exec .admitFrame (withFrame awaiting (from9 (.admitJoiner 5 9 700 2 (BitVec.ofNat 32 (2 * 4 ^ 12 + 4 ^ 10 + 2 * 4 ^ 6))))))
      (fun t => (t.member.state, t.member.attempt.map (fun a => a.accepted), (t.member.roster[3]).state, (t.member.roster[9]).state)) =
      some (.catchup, some 1, .online, .online) := by decide +kernel
/-- 10.5, seq 4: BUSY; the backoff of station 9 is 10 quarter periods of 30 LTU: 75 LTU. -/
theorem test_decline_busy :
    let station9 : State := { awaiting with config := some { cfg with station := 9, beaconPeriod := 30 } }
    nextOf (exec .declineFrame (withFrame station9 { sender := 4, frame := .decline ⟨9, 9, 1⟩, stamp := 100000, own := false }))
      (fun t => (t.member.backoff, t.host.events)) = some (some (100000 + 75 * 64), [event .joinRetry 0 9 0 1 0]) := by decide +kernel

/-- 10.3: a replica deadline of A + 142.7 LTU less a guard of 5 LTU leaves 137 whole LTU. -/
theorem test_remaining_term : remainingTerm { cfg with guard := 5 } 100000 (100000 + 9133) = 137 := by decide +kernel

/-- A station in CATCHUP whose parts are all in, with three frames counted and an empty table. -/
def ready : State :=
  { live .catchup with
    replica := Replica.clear
    member := { (live .catchup).member with
      attempt := some { stamp := 99000, accepted := 3, catchup := [], admission := some { admitter := 9, capture := 1, parts := 0, next := 0 }, phase := .collecting }
      admission := some { joiner := 5, incarnation := 9, admitter := 9, capture := 1 }
      snapshot := .rebuild { table := Vector.replicate 64 SnapEntry.clear, last := none } } }

/-- R117: a part whose number is not the next one fails the attempt. -/
theorem test_snapshot_out_of_order :
    nextOf (exec .snapshotFrame (withFrame ready (from9 (.snapshot 5 { index := 1, resource := 0, state := 0, counter := 1, members := [] }))))
      (fun t => (t.member.state, t.member.attempt.map (fun a => a.phase), t.member.failures)) = some (.joining, some (.closing .check), 1) := by decide +kernel
/-- R117: the final part leaves an EXCLUSIVE resource without a holder. -/
theorem test_snapshot_final_part_without_holder :
    let one : State := { ready with member := { ready.member with
      attempt := some { stamp := 99000, accepted := 3, catchup := [], admission := some { admitter := 9, capture := 1, parts := 1, next := 0 }, phase := .collecting } } }
    nextOf (exec .snapshotFrame (withFrame one (from9 (.snapshot 5 { index := 0, resource := 0, state := 1, counter := 1, members := [] }))))
      (fun t => t.member.attempt.map (fun a => a.phase)) = some (some (.closing .check)) := by decide +kernel
/-- 10.5, seq 5: capture 1, three frames counted: sequence number 5. -/
theorem test_snapEnd_sequence :
    nextOf (exec .snapEndFrame (withFrame ready (from9 (.snapEnd 5 (digestOf 2 (List.replicate 2 ResourceEntry.clear))))))
      (fun t => (t.member.state, t.replica.seq, t.host.events)) = some (.online, 5, [event .joined 0x77 5 9 0 2]) := by decide +kernel

/-- 3.8: S = 4096 and a difference of one fine tick is an error of 16 steps; a difference of 20 is an outlier. -/
theorem test_sample : sampleError 4097 4096 = 16 * 256 ∧ outlier 4097 4096 = false ∧ outlier 4116 4096 = true := by decide +kernel
theorem test_beacon_samples :
    nextOf (exec .beaconFrame (withFrame (withPeer (live .online) 9 { onlineEntry with beacon := some { number := 255, carried := 1000, received := 95903 } })
        (from9 (.beacon ⟨0, 5096, 6, 2, (live .online).digest, 0xBEEF⟩))))
      (fun t => (t.timebase.sum, t.timebase.count, (t.member.roster[9]).presence)) = some (16 * 256, 1, some (100000 + 3 * 40 * 64)) := by decide +kernel

/-! Expiries. -/
theorem test_replicaDeadline :
    nextOf (exec (.replicaDeadline 0 9) (withEntry (live .online) 0 { heldBy9 with holders := [{ holderOf 9 13 (some .watching) with deadline := 100000 }] }))
      (fun t => (t.tx.entries.map (fun e => e.frame), (t.replica.table[0]).holders.map (fun h => h.revocation))) = some ([.revoke 0 9 13], [some .queued]) := by
  decide +kernel
/-- 10.4, time 390. -/
theorem test_selfExpiry :
    nextOf (exec (.selfExpiry 0) (withSlot (live .mute) (slotOf .held none (some 21) none)))
      (fun t => ((t.claims[0]).state, t.tx.entries.map (fun e => e.frame), t.host.events)) =
      some (.lapsed, [.drop 0 21], [event .lost 0x41 0 21 1 0]) := by decide +kernel
theorem test_presenceDeadline :
    nextOf (exec (.presenceDeadline 9) (live .online)) (fun t => (t.tx.entries.map (fun e => e.frame), (t.member.roster[9]).departQueued)) =
      some ([.depart 9], true) := by decide +kernel
theorem test_beaconSchedule :
    nextOf (exec .beaconSchedule { live .online with member := { (live .online).member with beaconDeadline := some 100000, beaconCounter := 88 } })
      (fun t => (t.member.beaconCounter, t.member.beaconDeadline, t.tx.entries.map (fun e => e.frame.id))) = some (89, some 102560, [.beacon]) := by decide +kernel
theorem test_listenWindow :
    nextOf (exec .listenWindow { station .listen with member := { (station .listen).member with listenWindow := some 100000 } })
      (fun t => t.tx.entries.map (fun e => e.frame)) = some [.found 9 0xBEEF] := by decide +kernel
theorem test_foundingPeriod :
    nextOf (exec .foundingPeriod { live .founding with member := { (live .founding).member with foundingPeriod := some 100000 } })
      (fun t => (t.member.state, t.host.events)) = some (.online, [event .joined 0x77 5 9 0 2]) := by decide +kernel
theorem test_joinAttemptTimer :
    nextOf (exec .joinAttemptTimer awaiting)
      (fun t => (t.member.failures, t.tx.entries.map (fun e => e.frame))) = some (1, [.quit]) := by decide +kernel
theorem test_joinBackoff :
    nextOf (exec .joinBackoff { station .joining with member := { (station .joining).member with backoff := some 100000, incarnationCounter := 9 } })
      (fun t => t.tx.entries.map (fun e => e.frame)) = some [.apply 10 0xBEEF] := by decide +kernel

/-- 3.8, round A: 64 steps over 5 samples give a correction of 12, and the mean of 12 is above 8: TRACKING. -/
theorem test_roundEnd_a :
    nextOf (exec .roundEnd { station .online with timebase := { (station .online).timebase with sum := 64 * 256, count := 5 } })
      (fun t => (t.timebase.trim, t.timebase.state, t.timebase.quiet, t.host.events.length)) = some (12, .tracking, false, 0) := by decide +kernel
/-- 3.8, round D: 16 steps over 9 samples, the quiet flag set: LOCKED, with TIMEBASE. -/
theorem test_roundEnd_d :
    nextOf (exec .roundEnd { station .online with timebase := { (station .online).timebase with sum := 16 * 256, count := 9, trim := 17, quiet := true, state := .tracking } })
      (fun t => (t.timebase.trim, t.timebase.state, t.host.events)) = some (18, .locked, [event .timebase 0 5 18 2 9]) := by
  decide +kernel

/-- R70, R72: a station that left ONLINE, LOCKED and with samples of the round, ends it with none: FREE, with TIMEBASE and the trim kept. -/
theorem test_roundEnd_in_mute :
    nextOf (exec .roundEnd { station .mute with timebase := { (station .mute).timebase with sum := 16 * 256, count := 9, trim := 18, quiet := true, state := .locked } })
      (fun t => (t.timebase.trim, t.timebase.state, t.timebase.count, t.host.events)) = some (18, .free, 0, [event .timebase 0 5 18 0 0]) := by
  decide +kernel

/-- R73: TIMEBASE is in the Event Queue in the event of the round end, behind an event that was still on its way. -/
theorem test_timebase_at_once :
    let s : State := { station .online with
      timebase := { (station .online).timebase with state := .locked }
      host := { port with later := [true], raised := [event .lost 0x41 0 21 1 0] } }
    nextOf (exec .roundEnd s) (fun t => (t.host.events.map (fun e => e.kind), t.host.raised, t.host.later)) = some ([.lost, .timebase], [], [true]) := by
  decide +kernel

/-- An empty queue idles (log 2); a waiting command is taken from the front. -/
theorem test_step_takes_the_front :
    nextOf (step { station .online with pending := [.fineTick, .lineIdle] }) (fun t => (t.timebase.counter, t.pending)) = some (100001, [.lineIdle]) := by decide +kernel
theorem test_step_idles : nextOf (step blank) (fun t => t.timebase.counter) = some 0 := by decide +kernel

end Sys2Proof.Tests
end

section
/-! PROOF. The local claims (spec/02): how the Command Engine takes and refuses records, what the lease commands do, how the reports of the
Replica Engine move a slot, and the self-expiry deadline. -/

namespace Sys2Proof.LocalClaims

open Sys2Proof.Machine

/-! ## Taking a record (R169, R170, R173) -/

/-- The state a serving block acts on: the record has left the Command Queue, and no event is put off. -/
def taken (s : State) (rest : List CommandRecord) : State := { s with host := { s.host with commands := rest, later := [] } }

/-- The outcome of a taking that places one answer and has no other effect. -/
def answeredBy (s : State) (rest : List CommandRecord) (e : EventRecord) : State :=
  { s with host := HostPort.answer { s.host with commands := rest } e }

/-- The action a serving block takes on a valid record of each kind. -/
def acting : CommandKind → CommandRecord → State → Except RefusedReason State
  | .configure, r, t => .ok (t.configure r)
  | .join, r, t => .ok (t.startJoin r.tag)
  | .leave, r, t => .ok (t.startLeave r.tag)
  | .acquire, r, t => t.actAcquire r
  | .release, r, t => t.actRelease r
  | .renew, r, t => t.actRenew r
  | .cancel, r, t => t.actCancel r

theorem exec_taking (k : CommandKind) (s : State) : exec k.taking s = .next (s.takeRecord k (acting k)) := by
  cases k <;> rfl

theorem append_later (h : HostPort) (e : EventRecord) (l : List Bool) :
    HostPort.append { h with later := l } e = { h.append e with later := l } := by
  unfold HostPort.append
  by_cases hlt : h.events.length < Config.eventQueueSize <;> simp [hlt]

theorem appendAll_later (es : List EventRecord) (h : HostPort) (l : List Bool) :
    es.foldl HostPort.append { h with later := l } = { es.foldl HostPort.append h with later := l } := by
  induction es generalizing h with
  | nil => rfl
  | cons e es ih => rw [List.foldl_cons, append_later, ih]; rfl

/-- An answer does not read what is left open for other events. -/
theorem answer_later (h : HostPort) (e : EventRecord) (l : List Bool) :
    HostPort.answer { h with later := l } e = { h.answer e with later := l } := by
  rw [HostPort.answer_spec, HostPort.answer_spec]
  exact appendAll_later _ { h with raised := [] } l

/-- Events raised while none is put off are answers, whatever is left open for other events. -/
theorem raiseAll_at_once (es : List EventRecord) (h : HostPort) :
    { es.foldl HostPort.raise { h with later := [] } with later := h.later } = es.foldl HostPort.answer h := by
  induction es generalizing h with
  | nil => rfl
  | cons e es ih =>
    have hraise : HostPort.raise { h with later := [] } e = { h.answer e with later := [] } := by
      rw [HostPort.raise_at_once _ _ rfl, answer_later]
    have hlater : h.later = (h.answer e).later := by simp
    rw [List.foldl_cons, List.foldl_cons, hraise, hlater, ih]

section
variable {s t : State} {k : CommandKind} {r : CommandRecord} {rest : List CommandRecord} {reason : RefusedReason} {e : EventRecord}
  {act : CommandRecord → State → Except RefusedReason State}

/-- What is done with the state left by the removal of the record is done with `taken`; then the choices left open come back. -/
theorem answering_dropCommand (hc : s.host.commands = r :: rest) (f : State → State) :
    s.answering (fun u => f u.dropCommand)
      = { f (taken s rest) with host := { (f (taken s rest)).host with later := s.host.later } } := by
  simp [State.answering, State.dropCommand, taken, hc]

theorem answering_place (hc : s.host.commands = r :: rest) (e : EventRecord) :
    s.answering (fun u => u.dropCommand.place e) = answeredBy s rest e := by
  rw [answering_dropCommand hc (fun u => u.place e)]
  have hhost := raiseAll_at_once [e] { s.host with commands := rest }
  exact congrArg (fun h => { s with host := h }) hhost

theorem takeRecord_valid (hc : s.host.commands = r :: rest) (hk : r.validKind = some k) :
    s.takeRecord k act = s.answering (fun u => u.dropCommand.serve k r act) := by
  simp [State.takeRecord, hc, hk]

theorem takeRecord_of_serve_place (hc : s.host.commands = r :: rest) (hk : r.validKind = some k)
    (hs : (taken s rest).serve k r act = (taken s rest).place e) : s.takeRecord k act = answeredBy s rest e := by
  rw [takeRecord_valid hc hk, answering_dropCommand hc (fun u => u.serve k r act), hs,
    ← answering_dropCommand hc (fun u => u.place e), answering_place hc]

/-- R172, check 3. -/
theorem takeRecord_state (hc : s.host.commands = r :: rest) (hk : r.validKind = some k) (ht : k.takenIn s.member.state = false) :
    s.takeRecord k act = answeredBy s rest (r.refusal .state (r.refusedSubject k)) := by
  refine takeRecord_of_serve_place hc hk ?_
  have ht' : k.takenIn (taken s rest).member.state = false := ht
  simp [State.serve, ht']

/-- R172, check 4. -/
theorem takeRecord_range (hc : s.host.commands = r :: rest) (hk : r.validKind = some k) (ht : k.takenIn s.member.state = true)
    (hr : r.inRange s.cfg k = false) : s.takeRecord k act = answeredBy s rest (r.refusal .range (r.refusedSubject k)) := by
  refine takeRecord_of_serve_place hc hk ?_
  have ht' : k.takenIn (taken s rest).member.state = true := ht
  have hr' : r.inRange (taken s rest).cfg k = false := hr
  simp [State.serve, ht', hr']

/-- R172, check 5: the serving block refuses the record. -/
theorem takeRecord_error (hc : s.host.commands = r :: rest) (hk : r.validKind = some k) (ht : k.takenIn s.member.state = true)
    (hr : r.inRange s.cfg k = true) (ha : act r (taken s rest) = .error reason) :
    s.takeRecord k act = answeredBy s rest (r.refusal reason (r.refusedSubject k)) := by
  refine takeRecord_of_serve_place hc hk ?_
  have ht' : k.takenIn (taken s rest).member.state = true := ht
  have hr' : r.inRange (taken s rest).cfg k = true := hr
  simp [State.serve, ht', hr', ha]

/-- A record that passes every check is acted on, and its answers are not put off. -/
theorem takeRecord_ok (hc : s.host.commands = r :: rest) (hk : r.validKind = some k) (ht : k.takenIn s.member.state = true)
    (hr : r.inRange s.cfg k = true) (ha : act r (taken s rest) = .ok t) :
    s.takeRecord k act = { t with host := { t.host with later := s.host.later } } := by
  have ht' : k.takenIn (taken s rest).member.state = true := ht
  have hr' : r.inRange (taken s rest).cfg k = true := hr
  have hs : (taken s rest).serve k r act = t := by simp [State.serve, ht', hr', ha]
  rw [takeRecord_valid hc hk, answering_dropCommand hc (fun u => u.serve k r act), hs]

end

/-! ## Checks 1 to 4 (R171, R172, R188) -/

theorem checkOk_iff (r : CommandRecord) :
    r.checkOk = true ↔ r.kind + r.tag + r.p1 + r.p2 + r.p3 + r.p4 + r.p5 + r.check = 0xFF := by
  simp [CommandRecord.checkOk, byteSum, CommandRecord.bytes]

theorem ofCode_eq_none_iff (b : Byte) :
    CommandKind.ofCode b = none ↔ b ∉ [0x01#8, 0x02#8, 0x03#8, 0x10#8, 0x11#8, 0x12#8, 0x13#8] := by
  simp [CommandKind.ofCode, CommandKind.code, @eq_comm _ _ b]

theorem exec_badCommandRecord {s : State} {r : CommandRecord} {rest : List CommandRecord} {reason : RefusedReason}
    (hc : s.host.commands = r :: rest) (hb : r.badReason = some reason) :
    exec .badCommandRecord s = .next (answeredBy s rest (r.refusal reason 0)) := by
  have hexec : exec .badCommandRecord s = .next (s.answering (fun t => t.dropCommand.place (r.refusal reason 0))) := by
    simp [exec, execBadCommandRecord, hc, hb]
  rw [hexec, answering_place hc]

/-- The station states that do not take a kind (R38, R98, R100, R124). -/
def WrongState (st : StationState) : CommandKind → Prop
  | .configure => st ≠ .unconfigured ∧ st ≠ .offline
  | .join => st ≠ .offline
  | .leave => st = .unconfigured ∨ st = .offline ∨ st = .leaving
  | .acquire | .release | .renew | .cancel => st ≠ .online

theorem takenIn_eq_false_iff (k : CommandKind) (st : StationState) : k.takenIn st = false ↔ WrongState st k := by
  cases k <;> cases st <;> simp [CommandKind.takenIn, WrongState]

theorem term_toNat (r : CommandRecord) : r.term.toNat = r.p3.toNat * 256 + r.p4.toNat := by
  have h := Nat.shiftLeft_add_eq_or_of_lt r.p4.isLt r.p3.toNat
  rw [CommandRecord.term, word16Of, BitVec.toNat_append, ← h, Nat.shiftLeft_eq]

/-- A term of 0, or of at most 4 × the guard, is not allowed. -/
theorem termOk_eq_false_iff (c : ConfigRecord) (r : CommandRecord) :
    termOk c r.term = false ↔
      r.p3.toNat * 256 + r.p4.toNat = 0 ∨ r.p3.toNat * 256 + r.p4.toNat ≤ 4 * c.guard.toNat := by
  have hz : r.term = 0 ↔ r.p3.toNat * 256 + r.p4.toNat = 0 := by
    rw [← term_toNat, ← BitVec.toNat_inj]; rfl
  simp only [termOk, ConfigRecord.guardLtu, Bool.and_eq_false_iff, bne_eq_false_iff_eq, decide_eq_false_iff_not, Nat.not_lt, hz, term_toNat]

theorem reservedBit_eq (b : Byte) : b.getLsbD 3 = decide (b.toNat / 8 % 2 = 1) := by
  simp [BitVec.getLsbD, Nat.testBit_eq_decide_div_mod_eq]

theorem modeReserved_ne_zero_iff (b : Byte) : b.extractLsb' 2 5 ≠ 0 ↔ b.toNat / 4 % 32 ≠ 0 := by
  rw [Ne, ← BitVec.toNat_inj]
  simp [BitVec.extractLsb'_toNat, Nat.shiftRight_eq_div_pow]

theorem modeCode_unused_iff (r : CommandRecord) :
    (Mode.ofCode r.modeCode).isSome = false ↔ r.p2.toNat % 4 = 0 ∨ r.p2.toNat % 4 = 3 := by
  have hcode : r.modeCode.toNat = r.p2.toNat % 4 := by simp [CommandRecord.modeCode, BitVec.extractLsb'_toNat]
  rw [← hcode]
  generalize r.modeCode = m
  revert m
  decide

theorem stationByte_station (r : CommandRecord) : stationByte r.station = BitVec.ofNat 8 (r.p1.toNat / 16) := by
  have hlt : r.p1.toNat / 16 < 16 := by have := r.p1.isLt; omega
  simp [stationByte, CommandRecord.station, Nat.shiftRight_eq_div_pow, Nat.mod_eq_of_lt hlt]

theorem resource_not_lt_iff (c : ConfigRecord) (r : CommandRecord) :
    ¬ r.p1.toNat < c.resourceCount ↔ c.lastResource.toNat + 1 ≤ r.p1.toNat := by
  rw [Nat.not_lt, ConfigRecord.resourceCount]

/-- The records of a kind with a field out of range (R188, R38). -/
def OutOfRange (c : ConfigRecord) (r : CommandRecord) : CommandKind → Prop
  | .configure => r.tag = 0 ∨ r.p1.toNat / 8 % 2 = 1 ∨ r.p1.toNat % 8 < 2 ∨ r.p3.toNat < 20 ∨ r.p4 = 0
  | .join | .leave => r.tag = 0 ∨ r.p1 ≠ 0 ∨ r.p2 ≠ 0 ∨ r.p3 ≠ 0 ∨ r.p4 ≠ 0 ∨ r.p5 ≠ 0
  | .acquire => r.tag = 0 ∨ c.lastResource.toNat + 1 ≤ r.p1.toNat ∨ r.p2.toNat / 4 % 32 ≠ 0 ∨ r.p2.toNat % 4 = 0 ∨ r.p2.toNat % 4 = 3
      ∨ r.p3.toNat * 256 + r.p4.toNat = 0 ∨ r.p3.toNat * 256 + r.p4.toNat ≤ 4 * c.guard.toNat ∨ r.p5 ≠ 0
  | .renew => r.tag = 0 ∨ c.lastResource.toNat + 1 ≤ r.p1.toNat ∨ r.p2 ≠ 0
      ∨ r.p3.toNat * 256 + r.p4.toNat = 0 ∨ r.p3.toNat * 256 + r.p4.toNat ≤ 4 * c.guard.toNat ∨ r.p5 ≠ 0
  | .release | .cancel => r.tag = 0 ∨ c.lastResource.toNat + 1 ≤ r.p1.toNat ∨ r.p2 ≠ 0 ∨ r.p3 ≠ 0 ∨ r.p4 ≠ 0 ∨ r.p5 ≠ 0

theorem inRange_eq_false_iff (c : ConfigRecord) (r : CommandRecord) (k : CommandKind) : r.inRange c k = false ↔ OutOfRange c r k := by
  have hmisses : (r.p1.extractLsb' 0 3).toNat = r.p1.toNat % 8 := by simp [BitVec.extractLsb'_toNat]
  cases k <;>
    simp only [CommandRecord.inRange, OutOfRange, resource_not_lt_iff, Bool.and_eq_false_iff, bne_eq_false_iff_eq, beq_eq_false_iff_ne,
      Bool.not_eq_false', decide_eq_false_iff_not, decide_eq_true_eq, Nat.not_le, reservedBit_eq, hmisses, modeReserved_ne_zero_iff,
      modeCode_unused_iff, termOk_eq_false_iff, or_assoc]

/-- Settles O16: each check is a case of what a taking does, and the fields of the refusal are those of R173. -/
theorem failedChecksRefuseTheRecord : Obligations.FailedChecksRefuseTheRecord := by
  refine ⟨fun s r rest hc => ⟨fun hsum => ?_, fun hsum hkind => ?_⟩, fun s k r rest hc hk => ?_⟩
  · have hbad : r.badReason = some .check := by
      have hck : r.checkOk = false := Bool.eq_false_iff.mpr (mt (checkOk_iff r).mp hsum)
      simp [CommandRecord.badReason, hck]
    exact exec_badCommandRecord hc hbad
  · have hbad : r.badReason = some .kind := by
      simp [CommandRecord.badReason, (checkOk_iff r).mpr hsum, (ofCode_eq_none_iff r.kind).mpr hkind]
    exact exec_badCommandRecord hc hbad
  · intro st wrongState c term mode outOfRange subject refusal taken
    have hwrong : k.takenIn s.member.state = false ↔ wrongState := by
      rw [takenIn_eq_false_iff]; cases k <;> rfl
    have hrange : r.inRange s.cfg k = false ↔ outOfRange := by
      rw [inRange_eq_false_iff]; cases k <;> rfl
    have hsubject : r.refusedSubject k = subject := by
      cases k with
      | configure => exact stationByte_station r
      | join | leave | acquire | release | renew | cancel => rfl
    have hrefusal (reason : RefusedReason) : r.refusal reason (r.refusedSubject k) = refusal reason.code := by
      rw [hsubject]; rfl
    rw [exec_taking]
    refine ⟨fun hw => ?_, fun hw ho => ?_⟩
    · rw [takeRecord_state hc hk (hwrong.mpr hw), hrefusal]; rfl
    · rw [takeRecord_range hc hk (Bool.eq_true_of_not_eq_false (mt hwrong.mp hw)) (hrange.mpr ho), hrefusal]; rfl

/-! ## Slots and their frames (R34, R35, R36) -/

theorem findSlot_spec {s : State} {no : ResNo} {i : Fin 8} (h : s.findSlot no = some i) :
    (s.slot i).state ≠ .empty ∧ (s.slot i).resource = no := by
  simpa using List.find?_some h

theorem emptySlot_eq_none_iff (s : State) : s.emptySlot = none ↔ ∀ i : Fin 8, (s.slot i).state ≠ .empty := by
  simp [State.emptySlot]

theorem placeAll_eq (s : State) (es : List EventRecord) : s.placeAll es = { s with host := es.foldl HostPort.raise s.host } := by
  induction es generalizing s with
  | nil => rfl
  | cons e es ih => exact ih (s.place e)

theorem placeAllAtOnce_eq (s : State) (es : List EventRecord) :
    es.foldl State.placeAtOnce s = { s with host := es.foldl HostPort.answer s.host } := by
  induction es generalizing s with
  | nil => rfl
  | cons e es ih => exact ih (s.placeAtOnce e)

/-- The slot is replaced and events are raised, oldest first. -/
def moved (s : State) (i : Fin 8) (sl : Slot) (told : List EventRecord) : State :=
  { s with claims := s.claims.set i sl, host := told.foldl HostPort.raise s.host }

/-- The same, with a frame queued. -/
def queues (s : State) (i : Fin 8) (sl : Slot) (f : Frame) (told : List EventRecord) : State :=
  { moved s i sl told with tx := (s.tx.insert f).2 }

/-- The withdrawal of the slot's frame decides: ENDING with the answer to follow where the frame is on the line, EMPTY with it at once otherwise. -/
def overtaken (s : State) (i : Fin 8) (sl : Slot) (k : LeaseKind) (answer : Option FollowingAnswer) (told follow : List EventRecord) : State :=
  { (if (s.tx.withdraw (k.id sl.resource)).1 = .onLine then
        moved s i { sl with state := .ending, answer := answer, marker := some { kind := k, withdrawn := true, dropFollows := false } } told
      else moved s i Slot.clear (told ++ follow)) with tx := (s.tx.withdraw (k.id sl.resource)).2 }

/-- The slot with a grant and the self-expiry deadline of R42. -/
def holding (s : State) (sl : Slot) (g term : Word16) (time : Tick) : Slot :=
  { sl with
    grant := some g
    deadline := some (time + BitVec.ofNat 32 (64 * term.toNat)
      - BitVec.ofNat 32 (64 * if s.timebase.state = .locked then s.cfg.guard.toNat else 2 * s.cfg.guard.toNat)) }

theorem withGrant_eq (s : State) (sl : Slot) (g term : Word16) (time : Tick) : s.withGrant sl g term time = holding s sl g term time := by
  unfold State.withGrant holding State.selfExpiryAt
  cases s.timebase.state <;> rfl

section
variable (s : State) (i : Fin 8) (sl : Slot) (g : Word16) (e : EventRecord) (es : List EventRecord)

theorem setSlot_place : (s.setSlot i sl).place e = moved s i sl [e] := rfl

theorem queueDrop_eq : s.queueDrop i sl g = queues s i { sl with marker := some (FrameMarker.of .drop) } (.drop sl.resource g) [] := rfl

theorem place_queueDrop :
    (s.place e).queueDrop i sl g = queues s i { sl with marker := some (FrameMarker.of .drop) } (.drop sl.resource g) [e] := rfl

theorem queueWithdraw_eq : s.queueWithdraw i sl = queues s i { sl with marker := some (FrameMarker.of .withdraw) } (.withdraw sl.resource) [] := rfl

theorem place_queueWithdraw :
    (s.place e).queueWithdraw i sl = queues s i { sl with marker := some (FrameMarker.of .withdraw) } (.withdraw sl.resource) [e] := rfl

theorem endSlot_eq : s.endSlot i es = moved s i Slot.clear es := placeAll_eq _ es

theorem endEnding_eq :
    s.endEnding i sl = { s with claims := s.claims.set i Slot.clear, host := sl.following.foldl HostPort.answer s.host } :=
  placeAllAtOnce_eq _ sl.following

variable {sl}

/-- A slot whose DROP or WITHDRAW is queued again keeps its marker. -/
theorem with_marker_self {m : Option FrameMarker} (hm : sl.marker = m) : { sl with marker := m } = sl := by
  rw [← hm]

/-- The slot's frame is on the line, or it is gone (R36, log 18). -/
theorem withdrawSlotFrame_eq {m : FrameMarker} (hm : sl.marker = some m) :
    s.withdrawSlotFrame sl = (decide ((s.tx.withdraw (m.kind.id sl.resource)).1 = .onLine), { s with tx := (s.tx.withdraw (m.kind.id sl.resource)).2 }) := by
  simp only [State.withdrawSlotFrame, Slot.frameKind, hm, Option.map_some, State.withdrawFrame]
  cases (s.tx.withdraw (m.kind.id sl.resource)).1 <;> rfl

theorem endHeldSlot_eq {k : LeaseKind} (hm : sl.marker = some (FrameMarker.of k)) (answer : Option FollowingAnswer) :
    s.endHeldSlot i sl answer = overtaken s i sl k answer [] ({ sl with answer := answer }.following) := by
  unfold State.endHeldSlot overtaken
  rw [withdrawSlotFrame_eq s hm]
  by_cases hon : (s.tx.withdraw (k.id sl.resource)).1 = .onLine
  · simp [FrameMarker.of, hon, hm, Slot.markWithdrawn, State.setSlot, moved]
  · simp [FrameMarker.of, hon, endSlot_eq, moved]

theorem place_endHeldSlot {k : LeaseKind} (hm : sl.marker = some (FrameMarker.of k)) (answer : Option FollowingAnswer) :
    (s.place e).endHeldSlot i sl answer = overtaken s i sl k answer [e] ({ sl with answer := answer }.following) :=
  endHeldSlot_eq (s.place e) i hm answer

end

/-! ## Reports by slot state (R40 to R56) -/

section
variable {s : State} {i : Fin 8} {sl : Slot} {no : ResNo} (hf : s.findSlot no = some i) (hsl : s.slot i = sl)

theorem claimReport_no_slot {rep : Report} (h : s.findSlot rep.resource = none) : s.claimReport rep = s := by
  simp [State.claimReport, h]

theorem claimDiscarded_no_slot {k : LeaseKind} (h : s.findSlot no = none) : s.claimDiscarded k no = s := by
  simp [State.claimDiscarded, h]

include hf hsl

theorem claimReport_sending (hst : sl.state = .sending) (rep : Report) (hr : rep.resource = no) :
    s.claimReport rep = s.reportSending i sl rep := by simp [State.claimReport, hr, hf, hsl, hst]

theorem claimReport_waiting (hst : sl.state = .waiting) (rep : Report) (hr : rep.resource = no) :
    s.claimReport rep = s.reportWaiting i sl rep := by simp [State.claimReport, hr, hf, hsl, hst]

theorem claimReport_held (hst : sl.state = .held) (rep : Report) (hr : rep.resource = no) :
    s.claimReport rep = s.reportHeld i sl rep := by simp [State.claimReport, hr, hf, hsl, hst]

theorem claimReport_renewing (hst : sl.state = .renewing) (rep : Report) (hr : rep.resource = no) :
    s.claimReport rep = s.reportRenewing i sl rep := by simp [State.claimReport, hr, hf, hsl, hst]

theorem claimReport_releasing (hst : sl.state = .releasing) (rep : Report) (hr : rep.resource = no) :
    s.claimReport rep = s.reportReleasing i sl rep := by simp [State.claimReport, hr, hf, hsl, hst]

theorem claimReport_withdrawing (hst : sl.state = .withdrawing) (hm : sl.marker = some (FrameMarker.of .withdraw)) (rep : Report)
    (hr : rep.resource = no) : s.claimReport rep = s.reportWithdrawing i sl rep := by
  simp [State.claimReport, hr, hf, hsl, hst, Slot.frameKind, hm, FrameMarker.of]

theorem claimReport_withdrawingDrop (hst : sl.state = .withdrawing) (hm : sl.marker = some (FrameMarker.of .drop)) (rep : Report)
    (hr : rep.resource = no) : s.claimReport rep = s.reportWithdrawingDrop i sl rep := by
  simp [State.claimReport, hr, hf, hsl, hst, Slot.frameKind, hm, FrameMarker.of]

theorem claimReport_lapsedDrop (hst : sl.state = .lapsed) (hm : sl.marker = some (FrameMarker.of .drop)) (rep : Report)
    (hr : rep.resource = no) : s.claimReport rep = s.reportLapsedDrop i sl rep := by
  simp [State.claimReport, hr, hf, hsl, hst, Slot.frameKind, hm, FrameMarker.of]

theorem claimReport_lapsedExtend (hst : sl.state = .lapsed) {w d : Bool} (hm : sl.marker = some { kind := .extend, withdrawn := w, dropFollows := d })
    (rep : Report) (hr : rep.resource = no) : s.claimReport rep = s.reportLapsedExtend i sl rep := by
  simp [State.claimReport, hr, hf, hsl, hst, Slot.frameKind, hm]

theorem claimReport_ending (hst : sl.state = .ending) {m : FrameMarker} (hm : sl.marker = some m) (rep : Report) (hr : rep.resource = no)
    (hdone : rep.completes m.kind = true) : s.claimReport rep = s.endEnding i sl := by
  simp [State.claimReport, State.reportEnding, hr, hf, hsl, hst, Slot.frameKind, hm, hdone]

/-- SENDING with no CANCEL pending (R40). -/
theorem sending_reports (hst : sl.state = .sending) (hc : sl.cancelPending = false) (g term : Word16) (time : Tick) (pos : Nat) :
    s.claimReport (.granted no g term time) = moved s i { holding s sl g term time with state := .held, marker := none } [sl.granted g]
      ∧ s.claimReport (.queued no pos) = moved s i { sl with state := .waiting, marker := none } [sl.queued pos]
      ∧ s.claimReport (.denied no) = moved s i Slot.clear [sl.denied detailDeniedNone]
      ∧ s.claimReport (.rejected no .claim) = moved s i Slot.clear [sl.denied detailDeniedRejected] := by
  have at_slot := claimReport_sending hf hsl hst
  refine ⟨?_, ?_, ?_, ?_⟩ <;> rw [at_slot _ rfl] <;>
    simp [State.reportSending, hc, withGrant_eq, setSlot_place, endSlot_eq]

/-- SENDING with a CANCEL pending and the CLAIM withdrawn on the line (R52). -/
theorem sending_reports_cancelPending (hst : sl.state = .sending) (hc : sl.cancelPending = true) (g term : Word16) (time : Tick) (pos : Nat) :
    s.claimReport (.granted no g term time)
        = queues s i { holding s sl g term time with state := .withdrawing, marker := some (FrameMarker.of .drop) } (.drop sl.resource g) [sl.granted g]
      ∧ s.claimReport (.queued no pos)
        = queues s i { sl with state := .withdrawing, marker := some (FrameMarker.of .withdraw) } (.withdraw sl.resource) [sl.queued pos]
      ∧ s.claimReport (.denied no) = moved s i Slot.clear [sl.denied detailDeniedNone, sl.cancelDone 0 detailAfterDenial]
      ∧ s.claimReport (.rejected no .claim) = moved s i Slot.clear [sl.denied detailDeniedRejected, sl.cancelDone 0 detailAfterDenial] := by
  have at_slot := claimReport_sending hf hsl hst
  refine ⟨?_, ?_, ?_, ?_⟩ <;> rw [at_slot _ rfl] <;>
    simp [State.reportSending, hc, withGrant_eq, place_queueDrop, place_queueWithdraw, endSlot_eq, holding]

/-- A CLAIM discarded with its CANCEL pending (R52). -/
theorem sending_discarded (hst : sl.state = .sending) (hc : sl.cancelPending = true) {m : FrameMarker} (hm : sl.marker = some m) :
    s.claimDiscarded m.kind no = moved s i Slot.clear [sl.cancelled, sl.cancelDone 0 detailBeforeLine] := by
  simp [State.claimDiscarded, hf, hsl, hst, hc, hm, Slot.frameKind, endSlot_eq]

/-- R41. -/
theorem waiting_granted (hst : sl.state = .waiting) (g term : Word16) (time : Tick) :
    s.claimReport (.granted no g term time) = moved s i { holding s sl g term time with state := .held } [sl.granted g] := by
  rw [claimReport_waiting hf hsl hst _ rfl, State.reportWaiting, withGrant_eq, setSlot_place]

/-- R44. -/
theorem held_revoked (hst : sl.state = .held) (g : Word16) :
    s.claimReport (.revoked no g) = moved s i Slot.clear [sl.lost g detailLostRevoked] := by
  rw [claimReport_held hf hsl hst _ rfl, State.reportHeld, endSlot_eq]

/-- RENEWING (R46, R47). -/
theorem renewing_reports (hst : sl.state = .renewing) (hm : sl.marker = some (FrameMarker.of .extend)) (g term : Word16) (time : Tick) :
    s.claimReport (.extendApplied no g term time)
        = moved s i { holding s sl g term time with state := .held, term := term, command := none, marker := none } [sl.renewed g]
      ∧ s.claimReport (.revoked no g)
        = overtaken s i sl .extend (some .renewLateRevoked) [sl.lost g detailLostRevoked] [sl.renewLate detailLateRevoked]
      ∧ s.claimReport (.extendStale no) = moved s i Slot.clear [sl.lost sl.grantNumber detailLostRevoked, sl.renewLate detailLateRevoked]
      ∧ s.claimReport (.rejected no .extend) = moved s i { sl with state := .held, command := none, marker := none } [sl.renewLate detailLateRejected] := by
  have at_slot := claimReport_renewing hf hsl hst
  refine ⟨?_, ?_, ?_, ?_⟩ <;> rw [at_slot _ rfl]
  · simp [State.reportRenewing, withGrant_eq, setSlot_place]
  · exact place_endHeldSlot s i _ hm _
  · exact endSlot_eq s i _
  · rfl

/-- RELEASING (R50). -/
theorem releasing_reports (hst : sl.state = .releasing) (hm : sl.marker = some (FrameMarker.of .drop)) (g : Word16) :
    s.claimReport (.dropApplied no g) = moved s i Slot.clear [sl.released g detailDropped]
      ∧ s.claimReport (.revoked no g)
        = overtaken s i sl .drop (some .releasedRevokedFirst) [] [sl.released sl.grantNumber detailRevokedFirst]
      ∧ s.claimReport (.dropStale no) = moved s i Slot.clear [sl.released sl.grantNumber detailRevokedFirst]
      ∧ s.claimReport (.rejected no .drop) = queues s i sl (.drop sl.resource sl.grantNumber) [] := by
  have at_slot := claimReport_releasing hf hsl hst
  refine ⟨?_, ?_, ?_, ?_⟩ <;> rw [at_slot _ rfl]
  · exact endSlot_eq s i _
  · exact endHeldSlot_eq s i hm _
  · exact endSlot_eq s i _
  · simp [State.reportReleasing, queueDrop_eq, with_marker_self hm]

/-- WITHDRAWING with its WITHDRAW out, whether or not a grant has come (R53). -/
theorem withdrawing_reports (hst : sl.state = .withdrawing) (hm : sl.marker = some (FrameMarker.of .withdraw)) (g term : Word16) (time : Tick) :
    s.claimReport (.granted no g term time) = moved s i (holding s sl g term time) [sl.granted g]
      ∧ s.claimReport (.withdrawFromWait no) = moved s i Slot.clear [sl.cancelled, sl.cancelDone 0 detailFromWait]
      ∧ s.claimReport (.withdrawAsDrop no g) = moved s i Slot.clear [sl.cancelDone g detailAfterGrant]
      ∧ s.claimReport (.rejected no .withdraw) = queues s i sl (.withdraw sl.resource) [] := by
  have at_slot := claimReport_withdrawing hf hsl hst hm
  refine ⟨?_, ?_, ?_, ?_⟩ <;> rw [at_slot _ rfl]
  · simp [State.reportWithdrawing, withGrant_eq, setSlot_place]
  · exact endSlot_eq s i _
  · exact endSlot_eq s i _
  · simp [State.reportWithdrawing, queueWithdraw_eq, with_marker_self hm]

/-- WITHDRAWING, the WITHDRAW stale with no grant recorded (R53). -/
theorem withdrawing_stale (hst : sl.state = .withdrawing) (hm : sl.marker = some (FrameMarker.of .withdraw)) (hg : sl.grant = none) :
    s.claimReport (.withdrawStale no) = moved s i Slot.clear [sl.cancelled, sl.cancelDone 0 detailFromWait] := by
  rw [claimReport_withdrawing hf hsl hst hm _ rfl]
  simp [State.reportWithdrawing, hg, endSlot_eq]

/-- WITHDRAWING, a grant recorded with the WITHDRAW out (R53). -/
theorem withdrawing_reports_granted (hst : sl.state = .withdrawing) (hm : sl.marker = some (FrameMarker.of .withdraw)) {g : Word16}
    (hg : sl.grant = some g) :
    s.claimReport (.withdrawStale no) = moved s i Slot.clear [sl.cancelDone g detailAfterGrant]
      ∧ s.claimReport (.revoked no g)
        = overtaken s i sl .withdraw (some .cancelDoneAfterGrant) [] [sl.cancelDone sl.grantNumber detailAfterGrant] := by
  have at_slot := claimReport_withdrawing hf hsl hst hm
  refine ⟨?_, ?_⟩ <;> rw [at_slot _ rfl]
  · simp [State.reportWithdrawing, hg, endSlot_eq]
  · simp [State.reportWithdrawing, hg, endHeldSlot_eq s i hm, Slot.following, Slot.grantNumber, Slot.cancelDone, Slot.event, Slot.commandTag]

/-- WITHDRAWING with a DROP out (R54). -/
theorem withdrawingDrop_reports (hst : sl.state = .withdrawing) (hm : sl.marker = some (FrameMarker.of .drop)) {g : Word16} (hg : sl.grant = some g) :
    s.claimReport (.dropApplied no g) = moved s i Slot.clear [sl.cancelDone g detailAfterGrant]
      ∧ s.claimReport (.dropStale no) = moved s i Slot.clear [sl.cancelDone sl.grantNumber detailAfterGrant]
      ∧ s.claimReport (.rejected no .drop) = queues s i sl (.drop sl.resource sl.grantNumber) []
      ∧ s.claimReport (.revoked no g)
        = overtaken s i sl .drop (some .cancelDoneAfterGrant) [] [sl.cancelDone sl.grantNumber detailAfterGrant] := by
  have at_slot := claimReport_withdrawingDrop hf hsl hst hm
  refine ⟨?_, ?_, ?_, ?_⟩ <;> rw [at_slot _ rfl]
  · exact endSlot_eq s i _
  · exact endSlot_eq s i _
  · simp [State.reportWithdrawingDrop, queueDrop_eq, with_marker_self hm]
  · simp only [State.reportWithdrawingDrop, hg, Option.isSome_some, if_true]
    exact endHeldSlot_eq s i hm _

/-- LAPSED with its DROP out (R55). -/
theorem lapsedDrop_reports (hst : sl.state = .lapsed) (hm : sl.marker = some (FrameMarker.of .drop)) (g : Word16) :
    s.claimReport (.dropApplied no g) = moved s i Slot.clear []
      ∧ s.claimReport (.dropStale no) = moved s i Slot.clear []
      ∧ s.claimReport (.rejected no .drop) = queues s i sl (.drop sl.resource sl.grantNumber) []
      ∧ s.claimReport (.revoked no g) = overtaken s i sl .drop none [] [] := by
  have at_slot := claimReport_lapsedDrop hf hsl hst hm
  refine ⟨?_, ?_, ?_, ?_⟩ <;> rw [at_slot _ rfl]
  · exact endSlot_eq s i _
  · exact endSlot_eq s i _
  · simp [State.reportLapsedDrop, queueDrop_eq, with_marker_self hm]
  · exact endHeldSlot_eq s i hm none

/-- LAPSED with the EXTEND on the line and a DROP to follow (R55, log 26). -/
theorem lapsedExtend_reports (hst : sl.state = .lapsed) (hm : sl.marker = some { kind := .extend, withdrawn := true, dropFollows := true })
    (g term : Word16) (time : Tick) :
    s.claimReport (.extendApplied no g term time)
        = queues s i { sl with grant := some g, term := term, marker := some (FrameMarker.of .drop) } (.drop sl.resource g) []
      ∧ s.claimReport (.rejected no .extend)
        = queues s i { sl with marker := some (FrameMarker.of .drop) } (.drop sl.resource sl.grantNumber) []
      ∧ s.claimDiscarded .extend no
        = queues s i { sl with marker := some (FrameMarker.of .drop) } (.drop sl.resource sl.grantNumber) []
      ∧ s.claimReport (.extendStale no) = moved s i Slot.clear []
      ∧ s.claimReport (.revoked no g)
        = moved s i { sl with state := .ending, answer := none, marker := some { kind := .extend, withdrawn := true, dropFollows := false } } [] := by
  have at_slot := claimReport_lapsedExtend hf hsl hst hm
  refine ⟨?_, ?_, ?_, ?_, ?_⟩
  · rw [at_slot _ rfl]; rfl
  · rw [at_slot _ rfl]; rfl
  · simp [State.claimDiscarded, hf, hsl, hst, hm, Slot.frameKind, queueDrop_eq]
  · rw [at_slot _ rfl]; exact endSlot_eq s i _
  · rw [at_slot _ rfl]
    simp [State.reportLapsedExtend, hm, State.setSlot, moved]

/-- ENDING, the frame discarded (R56). -/
theorem ending_discarded (hst : sl.state = .ending) {m : FrameMarker} (hm : sl.marker = some m) :
    s.claimDiscarded m.kind no = s.endEnding i sl := by
  simp [State.claimDiscarded, hf, hsl, hst, hm, Slot.frameKind]

end

theorem commandTag_of_command {sl : Slot} {c : PendingKind} {tag : Byte} (hc : sl.command = some (c, tag)) : sl.commandTag = tag := by
  simp [Slot.commandTag, hc]

theorem grantNumber_of_grant {sl : Slot} {g : Word16} (hg : sl.grant = some g) : sl.grantNumber = g := by
  simp [Slot.grantNumber, hg]

theorem cancelPending_of_none {sl : Slot} (hc : sl.command = none) : sl.cancelPending = false := by
  simp [Slot.cancelPending, hc]

theorem cancelPending_of_cancel {sl : Slot} {tag : Byte} (hc : sl.command = some (.cancel, tag)) : sl.cancelPending = true := by
  simp [Slot.cancelPending, hc]

/-- Settles O42: the clauses are the tables of the slot's states; the slot's fields give tag and grant number. -/
theorem reportsMoveTheSlotByTheTables : Obligations.ReportsMoveTheSlotByTheTables := by
  refine ⟨fun s rep k no => ⟨claimReport_no_slot, claimDiscarded_no_slot⟩, fun s i no hf => ?_⟩
  intro sl hno
  subst hno
  refine ⟨fun g term time pos => ⟨fun hst hc => ?_, fun tag hst hc hm => ?_, fun hst => ?_, fun hst hm => ?_⟩, fun g hst => ?_,
    fun g tag hst hc hm hg => ?_, fun g tag hst hc hm hg => ?_, fun tag hst hc => ⟨fun hm => ?_, fun g hm hg => ?_⟩,
    fun g hst hg => ⟨fun hm => ?_, fun hm => ?_⟩, fun c tag g k hst hc hg hm => ?_⟩
  · exact sending_reports hf rfl hst (cancelPending_of_none hc) g term time pos
  · obtain rfl := commandTag_of_command hc
    have hp := cancelPending_of_cancel hc
    obtain ⟨hgranted, hqueued, hdenied, hrejected⟩ := sending_reports_cancelPending hf rfl hst hp g term time pos
    exact ⟨hgranted, hqueued, hdenied, hrejected, sending_discarded hf rfl hst hp hm⟩
  · exact waiting_granted hf rfl hst g term time
  · exact (withdrawing_reports hf rfl hst hm g term time).1
  · exact held_revoked hf rfl hst g
  · obtain rfl := commandTag_of_command hc
    obtain rfl := grantNumber_of_grant hg
    refine ⟨fun g' term time => (renewing_reports hf rfl hst hm g' term time).1, ?_⟩
    exact (renewing_reports hf rfl hst hm _ 0 0).2
  · obtain rfl := commandTag_of_command hc
    obtain rfl := grantNumber_of_grant hg
    exact releasing_reports hf rfl hst hm _
  · obtain rfl := commandTag_of_command hc
    obtain ⟨-, hwait, -, hrejected⟩ := withdrawing_reports hf rfl hst hm 0 0 0
    refine ⟨hwait, hrejected, withdrawing_stale hf rfl hst hm, fun g => ⟨(withdrawing_reports hf rfl hst hm g 0 0).2.2.1, fun hg => ?_⟩⟩
    obtain rfl := grantNumber_of_grant hg
    exact withdrawing_reports_granted hf rfl hst hm hg
  · obtain rfl := commandTag_of_command hc
    obtain rfl := grantNumber_of_grant hg
    exact withdrawingDrop_reports hf rfl hst hm hg
  · obtain rfl := grantNumber_of_grant hg
    exact ⟨fun g' => (lapsedDrop_reports hf rfl hst hm g').1, (lapsedDrop_reports hf rfl hst hm _).2⟩
  · obtain rfl := grantNumber_of_grant hg
    exact ⟨fun g' term time => (lapsedExtend_reports hf rfl hst hm g' term time).1, (lapsedExtend_reports hf rfl hst hm _ 0 0).2⟩
  · obtain rfl := commandTag_of_command hc
    obtain rfl := grantNumber_of_grant hg
    intro follow answered
    have hended : s.endEnding i sl = answered := by
      have hfollow : sl.following = follow := rfl
      rw [endEnding_eq, hfollow]
    have hdone (rep : Report) (hr : rep.resource = sl.resource) (hcomp : rep.completes k = true) : s.claimReport rep = answered :=
      (claimReport_ending hf rfl hst hm rep hr hcomp).trans hended
    refine ⟨(ending_discarded hf rfl hst hm).trans hended, ?_, ?_, ?_⟩
    · rintro rfl; exact ⟨hdone _ rfl rfl, hdone _ rfl rfl⟩
    · rintro rfl; exact ⟨hdone _ rfl rfl, hdone _ rfl rfl⟩
    · rintro rfl; exact ⟨hdone _ rfl rfl, hdone _ rfl rfl⟩

/-! ## Self-expiry (R43, R48) -/

section
variable {s : State} {i : Fin 8} {sl : Slot} (hsl : s.slot i = sl)
include hsl

theorem exec_selfExpiry {d : Tick} (hd : sl.deadline = some d) (hreached : 0 ≤ (s.now - d).toInt) :
    exec (.selfExpiry i) s = .next (s.selfExpire i) := by
  have hexp : expired s.now (s.slot i).deadline = true := (expired_iff _ _).mpr ⟨d, by rw [hsl, hd], hreached⟩
  simp [exec, execSelfExpiry, hexp]

/-- R43. -/
theorem selfExpire_held (hst : sl.state = .held) :
    s.selfExpire i = queues s i { sl with state := .lapsed, marker := some (FrameMarker.of .drop) } (.drop sl.resource sl.grantNumber)
      [sl.lost sl.grantNumber detailLostLapsed] := by
  simp only [State.selfExpire, hsl, hst, place_queueDrop]

/-- R48: the EXTEND is on the line, and the DROP follows it. -/
theorem selfExpire_renewing_onLine (hst : sl.state = .renewing) (hm : sl.marker = some (FrameMarker.of .extend))
    (hon : (s.tx.withdraw (.extend sl.resource)).1 = .onLine) :
    s.selfExpire i = { moved s i { sl with state := .lapsed, command := none, marker := some { kind := .extend, withdrawn := true, dropFollows := true } }
        [sl.lost sl.grantNumber detailLostLapsed, sl.renewLate detailLateLapsed] with
      tx := (s.tx.withdraw (.extend sl.resource)).2 } := by
  simp only [State.selfExpire, hsl, hst]
  rw [withdrawSlotFrame_eq _ hm]
  simp only [FrameMarker.of, LeaseKind.id, State.place_tx, hon, decide_true, if_true]
  rfl

/-- R48: the EXTEND is gone, and the DROP is queued at once. -/
theorem selfExpire_renewing_gone (hst : sl.state = .renewing) (hm : sl.marker = some (FrameMarker.of .extend))
    (hoff : (s.tx.withdraw (.extend sl.resource)).1 ≠ .onLine) :
    s.selfExpire i = queues { s with tx := (s.tx.withdraw (.extend sl.resource)).2 } i
        { sl with state := .lapsed, command := none, marker := some (FrameMarker.of .drop) } (.drop sl.resource sl.grantNumber)
        [sl.lost sl.grantNumber detailLostLapsed, sl.renewLate detailLateLapsed] := by
  simp only [State.selfExpire, hsl, hst]
  rw [withdrawSlotFrame_eq _ hm]
  simp only [FrameMarker.of, LeaseKind.id, State.place_tx, hoff, decide_false, Bool.false_eq_true, if_false]
  rfl

theorem selfExpire_no_effect (hst : sl.state = .releasing ∨ sl.state = .withdrawing ∨ sl.state = .lapsed ∨ sl.state = .ending) :
    s.selfExpire i = s := by
  obtain h | h | h | h := hst <;> simp [State.selfExpire, hsl, h]

end

/-- Settles O56: the deadline runs `selfExpire`, whose outcome is read off by the slot's state. -/
theorem selfExpiryLapsesTheLease : Obligations.SelfExpiryLapsesTheLease := by
  intro s i d g sl hd hreached hg
  have hexec : exec (.selfExpiry i) s = .next (s.selfExpire i) := exec_selfExpiry rfl hd hreached
  obtain rfl := grantNumber_of_grant hg
  rw [hexec]
  refine ⟨fun hst => ?_, fun tag hst hc hm => ?_, fun hst => ?_⟩
  · rw [selfExpire_held rfl hst]; rfl
  · obtain rfl := commandTag_of_command hc
    refine ⟨fun hon => ?_, fun hoff => ?_⟩
    · rw [selfExpire_renewing_onLine rfl hst hm hon]; rfl
    · rw [selfExpire_renewing_gone rfl hst hm hoff]; rfl
  · rw [selfExpire_no_effect rfl hst]

/-! ## Lease commands (R38, R39, R45, R49, R51) -/

/-- R38's table for RELEASE and RENEW: the reason by which a slot's state refuses them. -/
def heldRefusal : SlotState → Option RefusedReason
  | .held => none
  | .empty | .sending | .waiting => some .notHeld
  | .renewing | .releasing | .withdrawing | .lapsed | .ending => some .busySlot

/-- R38's table for CANCEL. -/
def cancelRefusal (sl : Slot) : Option RefusedReason :=
  match sl.state with
  | .sending => if sl.cancelPending then some .busySlot else none
  | .waiting => none
  | .empty | .held | .renewing | .releasing | .lapsed => some .notWaiting
  | .withdrawing | .ending => some .busySlot

theorem cancelRefusal_notWaiting {sl : Slot} (h : sl.state = .held ∨ sl.state = .renewing ∨ sl.state = .releasing ∨ sl.state = .lapsed) :
    cancelRefusal sl = some .notWaiting := by
  obtain h | h | h | h := h <;> rw [cancelRefusal, h]

theorem cancelRefusal_busy {sl : Slot} (h : sl.state = .withdrawing ∨ sl.state = .ending ∨ (sl.state = .sending ∧ sl.cancelPending = true)) :
    cancelRefusal sl = some .busySlot := by
  obtain h | h | ⟨h, hp⟩ := h
  · rw [cancelRefusal, h]
  · rw [cancelRefusal, h]
  · simp [cancelRefusal, h, hp]

section
variable {s : State} {r : CommandRecord} {i : Fin 8} {sl : Slot} {reason : RefusedReason}

theorem actAcquire_slots (h : ∀ i : Fin 8, (s.slot i).state ≠ .empty) : s.actAcquire r = .error .slots := by
  simp [State.actAcquire, (emptySlot_eq_none_iff s).mpr h]

theorem actAcquire_already (he : ∃ i : Fin 8, (s.slot i).state = .empty) (hf : (s.findSlot r.p1).isSome = true) :
    s.actAcquire r = .error .already := by
  cases hempty : s.emptySlot with
  | none =>
    obtain ⟨i, hi⟩ := he
    exact absurd hi ((emptySlot_eq_none_iff s).mp hempty i)
  | some i => simp [State.actAcquire, hempty, hf]

theorem actRelease_no_slot (hf : s.findSlot r.p1 = none) : s.actRelease r = .error .notHeld := by
  simp [State.actRelease, hf]

theorem actRenew_no_slot (hf : s.findSlot r.p1 = none) : s.actRenew r = .error .notHeld := by
  simp [State.actRenew, hf]

theorem actCancel_no_slot (hf : s.findSlot r.p1 = none) : s.actCancel r = .error .notWaiting := by
  simp [State.actCancel, hf]

/-- An ACQUIRE that finds an EMPTY slot and none for its resource (R39). -/
theorem actAcquire_ok (he : s.emptySlot = some i) (hf : s.findSlot r.p1 = none) :
    s.actAcquire r = .ok (queues s i
      { Slot.clear with state := .sending, resource := r.p1, term := r.term, tag := r.tag, marker := some (FrameMarker.of .claim) }
      (.claim r.p1 r.noWait r.modeCode r.term) []) := by
  simp only [State.actAcquire, he, hf, Option.isSome_none, Bool.false_eq_true, if_false]
  rfl

variable (hf : s.findSlot r.p1 = some i) (hsl : s.slot i = sl)
include hf hsl

theorem actRelease_refused (h : heldRefusal sl.state = some reason) : s.actRelease r = .error reason := by
  simp only [State.actRelease, hf, hsl]
  cases hst : sl.state <;> simp_all [heldRefusal]

theorem actRenew_refused (h : heldRefusal sl.state = some reason) : s.actRenew r = .error reason := by
  simp only [State.actRenew, hf, hsl]
  cases hst : sl.state <;> simp_all [heldRefusal]

theorem actCancel_refused (h : cancelRefusal sl = some reason) : s.actCancel r = .error reason := by
  simp only [State.actCancel, hf, hsl]
  cases hst : sl.state <;> simp_all [cancelRefusal]

/-- R45. -/
theorem actRenew_held (hst : sl.state = .held) :
    s.actRenew r = .ok (queues s i { sl with state := .renewing, command := some (.renew, r.tag), marker := some (FrameMarker.of .extend) }
      (.extend sl.resource sl.grantNumber r.term) []) := by
  have hres : sl.resource = r.p1 := hsl ▸ (findSlot_spec hf).2
  simp only [State.actRenew, hf, hsl, hst, hres]
  rfl

/-- R49. -/
theorem actRelease_held (hst : sl.state = .held) :
    s.actRelease r = .ok (queues s i { sl with state := .releasing, command := some (.release, r.tag), marker := some (FrameMarker.of .drop) }
      (.drop sl.resource sl.grantNumber) []) := by
  simp [State.actRelease, hf, hsl, hst, queueDrop_eq]

/-- R51: a WAITING slot. -/
theorem actCancel_waiting (hst : sl.state = .waiting) :
    s.actCancel r = .ok (queues s i { sl with state := .withdrawing, command := some (.cancel, r.tag), marker := some (FrameMarker.of .withdraw) }
      (.withdraw sl.resource) []) := by
  simp [State.actCancel, hf, hsl, hst, queueWithdraw_eq]

/-- R51: a SENDING slot whose CLAIM is removed. -/
theorem actCancel_sending_removed (hst : sl.state = .sending) (hp : sl.cancelPending = false) (hm : sl.marker = some (FrameMarker.of .claim))
    (hoff : (s.tx.withdraw (.claim sl.resource)).1 = .removed) :
    s.actCancel r = .ok { moved s i Slot.clear
        [sl.cancelled, Slot.cancelDone { sl with command := some (.cancel, r.tag) } 0 detailBeforeLine] with
      tx := (s.tx.withdraw (.claim sl.resource)).2 } := by
  simp only [State.actCancel, hf, hsl, hst, hp, withdrawSlotFrame_eq s hm, endSlot_eq]
  simp only [FrameMarker.of, LeaseKind.id, hoff, reduceCtorEq, decide_false, Bool.false_eq_true, if_false]
  rfl

/-- R51: a SENDING slot whose CLAIM is on the line. -/
theorem actCancel_sending_onLine (hst : sl.state = .sending) (hp : sl.cancelPending = false) (hm : sl.marker = some (FrameMarker.of .claim))
    (hon : (s.tx.withdraw (.claim sl.resource)).1 = .onLine) :
    s.actCancel r = .ok { moved s i
        { sl with command := some (.cancel, r.tag), marker := some { kind := .claim, withdrawn := true, dropFollows := false } } [] with
      tx := (s.tx.withdraw (.claim sl.resource)).2 } := by
  simp only [State.actCancel, hf, hsl, hst, hp, withdrawSlotFrame_eq s hm]
  simp only [FrameMarker.of, LeaseKind.id, hon, Slot.markWithdrawn, hm, Option.map_some, decide_true, Bool.false_eq_true, if_true, if_false]
  rfl

end

section
variable {s t : State} {k : CommandKind} {r : CommandRecord} {rest : List CommandRecord} {reason : RefusedReason}
  (hc : s.host.commands = r :: rest) (hk : r.validKind = some k) (ht : k.takenIn s.member.state = true) (hr : r.inRange s.cfg k = true)
include hc hk ht hr

/-- A taking that the serving block refuses. -/
theorem exec_taking_error (ha : acting k r (taken s rest) = .error reason) :
    exec k.taking s = .next (answeredBy s rest (r.refusal reason (r.refusedSubject k))) := by
  rw [exec_taking, takeRecord_error hc hk ht hr ha]

/-- A taking that is acted on. -/
theorem exec_taking_ok (ha : acting k r (taken s rest) = .ok t) :
    exec k.taking s = .next { t with host := { t.host with later := s.host.later } } := by
  rw [exec_taking, takeRecord_ok hc hk ht hr ha]

end

/-- The four commands of R38. -/
def IsLease (k : CommandKind) : Prop := k = .acquire ∨ k = .release ∨ k = .renew ∨ k = .cancel

theorem takenIn_online {k : CommandKind} {st : StationState} (hst : st = .online) (hk : IsLease k) : k.takenIn st = true := by
  subst hst
  obtain rfl | rfl | rfl | rfl := hk <;> rfl

theorem refusedSubject_lease {k : CommandKind} (r : CommandRecord) (hk : IsLease k) : r.refusedSubject k = r.p1 := by
  obtain rfl | rfl | rfl | rfl := hk <;> rfl

/-- Settles O17: each row of R38's table is a refusal by the Claim Manager. -/
theorem slotChecksRefuseByTheTable : Obligations.SlotChecksRefuseByTheTable := by
  intro s k r rest hc hk honline hr found hostTaken refusal refused
  have refuse {j : CommandKind} (hj : IsLease j) (hkj : k = j) (reason : RefusedReason) (ha : acting j r (taken s rest) = .error reason) :
      exec j.taking s = refused reason.code := by
    subst hkj
    rw [exec_taking_error hc hk (takenIn_online honline hj) hr ha, refusedSubject_lease r hj]
    rfl
  have acquire := @refuse .acquire (.inl rfl)
  have release := @refuse .release (.inr (.inl rfl))
  have renew := @refuse .renew (.inr (.inr (.inl rfl)))
  have cancel := @refuse .cancel (.inr (.inr (.inr rfl)))
  refine ⟨fun hka hall => acquire hka .slots (actAcquire_slots hall), fun hka hsome hfound => acquire hka .already (actAcquire_already hsome hfound),
    fun hnone => ⟨fun hkr => release hkr .notHeld (actRelease_no_slot hnone), fun hkn => renew hkn .notHeld (actRenew_no_slot hnone),
      fun hkc => cancel hkc .notWaiting (actCancel_no_slot hnone)⟩,
    fun i hf => ?_⟩
  intro st
  have held_refused (reason : RefusedReason) (h : heldRefusal st = some reason) :
      (k = .release → exec .release s = refused reason.code) ∧ (k = .renew → exec .renew s = refused reason.code) :=
    ⟨fun hkr => release hkr reason (actRelease_refused hf rfl h), fun hkn => renew hkn reason (actRenew_refused hf rfl h)⟩
  have slot_cancel_refused (reason : RefusedReason) (h : cancelRefusal s.claims[i] = some reason) (hkc : k = .cancel) :
      exec .cancel s = refused reason.code := cancel hkc reason (actCancel_refused hf rfl h)
  refine ⟨fun hst => held_refused .notHeld ?_, fun hst => held_refused .busySlot ?_, fun hst => slot_cancel_refused .notWaiting ?_,
    fun hst => slot_cancel_refused .busySlot ?_⟩
  · obtain h | h := hst <;> rw [h] <;> rfl
  · obtain h | h | h | h | h := hst <;> rw [h] <;> rfl
  · exact cancelRefusal_notWaiting hst
  · exact cancelRefusal_busy hst

theorem modeCode_eq (r : CommandRecord) : r.modeCode = BitVec.ofNat 2 r.p2.toNat := by
  exact BitVec.eq_of_toNat_eq (by simp [CommandRecord.modeCode, BitVec.extractLsb'_toNat])

/-- Settles O22: each command passes its checks, and what its action does is read off by the slot's state. -/
theorem leaseCommandsQueueTheirFrames : Obligations.LeaseCommandsQueueTheirFrames := by
  intro s r rest hc honline host term marked event
  have ok {k : CommandKind} (hk : r.validKind = some k) (hr : r.inRange s.cfg k = true) (hlease : IsLease k) {t : State}
      (ha : acting k r (taken s rest) = .ok t) := exec_taking_ok hc hk (takenIn_online honline hlease) hr ha
  refine ⟨fun hk hr i he hf => ?_, fun i hf => ?_⟩
  · rw [← modeCode_eq]
    exact ok hk hr (.inl rfl) (actAcquire_ok he hf)
  · intro sl
    have hres : sl.resource = r.p1 := (findSlot_spec hf).2
    rw [← hres]
    intro asked
    refine ⟨fun g hst hg => ⟨fun hk hr => ?_, fun hk hr => ?_⟩, fun hk hr => ⟨fun hst => ?_, fun hst hcmd hm => ⟨fun hoff => ?_, fun hon => ?_⟩⟩⟩
    · obtain rfl := grantNumber_of_grant hg
      exact ok hk hr (.inr (.inr (.inl rfl))) (actRenew_held hf rfl hst)
    · obtain rfl := grantNumber_of_grant hg
      exact ok hk hr (.inr (.inl rfl)) (actRelease_held hf rfl hst)
    · exact ok hk hr (.inr (.inr (.inr rfl))) (actCancel_waiting hf rfl hst)
    · have hp := cancelPending_of_none hcmd
      let pending : Slot := { sl with command := some (.cancel, r.tag) }
      have hcancelled : event .cancelled sl.tag 0 = sl.cancelled := by simp only [event, ← hres]; rfl
      have hdone : event .cancelDone r.tag 1 = pending.cancelDone 0 detailBeforeLine := by simp only [event, ← hres]; rfl
      have hhost := raiseAll_at_once [sl.cancelled, pending.cancelDone 0 detailBeforeLine] { s.host with commands := rest }
      rw [hcancelled, hdone]
      refine (ok hk hr (.inr (.inr (.inr rfl))) (actCancel_sending_removed hf rfl hst hp hm hoff)).trans ?_
      exact congrArg (fun h => Host.Outcome.next { s with host := h, claims := s.claims.set i Slot.clear, tx := asked.2 }) hhost
    · exact ok hk hr (.inr (.inr (.inr rfl))) (actCancel_sending_onLine hf rfl hst (cancelPending_of_none hcmd) hm hon)

end Sys2Proof.LocalClaims
end

section
/-! PROOF. The ranges that every command keeps (spec/03, R160 to R162), and what moves the fine-tick counter: what each operation leaves of the
Timebase and of the veto counts, then one case for each command. -/

namespace Sys2Proof.Ranges

open Sys2Proof.Machine

/-! ## Which operations keep the station state (R97) -/

@[simp] theorem queueOwn_state (s : State) (k : OwnKind) : (s.queueOwn k).member.state = s.member.state := by
  unfold State.queueOwn; split <;> rfl

@[simp] theorem ownLeft_state (s : State) : s.ownLeft.member.state = s.member.state := by
  unfold State.ownLeft
  split
  · rfl
  · simp only
    split <;> simp

@[simp] theorem withdrawOwn_state (s : State) : s.withdrawOwn.2.member.state = s.member.state := by
  unfold State.withdrawOwn
  split
  · rfl
  · simp only
    split <;> rfl

@[simp] theorem drawIncarnation_state (s : State) : s.drawIncarnation.member.state = s.member.state := rfl

@[simp] theorem askDepart_state (s : State) (p : Station) : (s.askDepart p).member.state = s.member.state := by
  obtain ⟨-, h⟩ | ⟨-, h⟩ := s.askDepart_spec p <;> simp [h]

@[simp] theorem withdrawDepart_state (s : State) (p : Station) : (s.withdrawDepart p).member.state = s.member.state := by
  unfold State.withdrawDepart; split <;> simp

@[simp] theorem renewPresence_state (s : State) (p : Station) (t : Tick) : (s.renewPresence p t).member.state = s.member.state := by
  simp only [State.renewPresence]; split <;> simp

@[simp] theorem departDiscarded_state (s : State) (p : Station) : (s.departDiscarded p).member.state = s.member.state := by
  simp only [State.departDiscarded]; split_ifs <;> simp

@[simp] theorem dropStream_state (s : State) : s.dropStream.member.state = s.member.state := rfl

@[simp] theorem closeAdmission_state (s : State) (p : Station) : (s.closeAdmission p).member.state = s.member.state := by
  unfold State.closeAdmission
  split
  · rfl
  · simp only; split_ifs <;> simp

@[simp] theorem nextStreamFrame_state (s : State) : s.nextStreamFrame.member.state = s.member.state := by
  unfold State.nextStreamFrame
  split
  · simp only; split <;> rfl
  · rfl
  · rfl

@[simp] theorem openAsAdmitter_state (s : State) (a : Admission) (t : Tick) : (s.openAsAdmitter a t).member.state = s.member.state := by
  simp only [State.openAsAdmitter]; split <;> rfl

@[simp] theorem peerGone_state (s : State) (d : Delivered) (p : Station) (x : Byte) (b : Bool) :
    (s.peerGone d p x b).member.state = s.member.state := by
  simp only [State.peerGone]; split <;> simp

@[simp] theorem settleDepart_state (s : State) (d : Delivered) (p : Station) : (s.settleDepart d p).member.state = s.member.state := by
  simp only [State.settleDepart]; split <;> simp

@[simp] theorem streamed_state (s : State) (d : Delivered) : (s.streamed d).member.state = s.member.state := by
  simp only [State.streamed]; split <;> simp

@[simp] theorem compareDigest_state (s : State) (d : Delivered) (b : BeaconBody) (x : Bool) :
    (s.compareDigest d b x).member.state = s.member.state := by
  simp only [State.compareDigest]; split_ifs <;> rfl

@[simp] theorem abandon_state (s : State) : s.abandon.member.state = s.member.state := by
  simp only [State.abandon]; split
  · split_ifs <;> simp
  · simp

@[simp] theorem beaconDelivered_state (s : State) (d : Delivered) : (s.beaconDelivered d).member.state = s.member.state := by
  unfold State.beaconDelivered; split
  · split_ifs <;> simp
  · rfl

@[simp] theorem ownDelivered_state (s : State) (d : Delivered) : (s.ownDelivered d).member.state = s.member.state := by
  unfold State.ownDelivered; split
  · split_ifs <;> simp
  · rfl

@[simp] theorem fireBeacon_frame (s : State) :
    s.fireBeacon.line = s.line ∧ s.fireBeacon.timebase = s.timebase ∧ s.fireBeacon.member.state = s.member.state := by
  simp only [State.fireBeacon]; split <;> simp

/-! ## Steady operations -/

/-- The counter stands and the Timebase keeps its ranges (R59, R60, R69, R71); no veto count grows, and MUTE is left only with both counts 0 (R128,
R162). -/
structure Steady (s t : State) : Prop where
  counter : t.timebase.counter = s.timebase.counter
  sound : s.timebase.Sound → t.timebase.Sound
  own : t.line.ownVetoes ≤ s.line.ownVetoes
  issued : t.line.issuedVetoes ≤ s.line.issuedVetoes
  mute : s.member.state = .mute → t.member.state = .mute ∨ (t.line.ownVetoes = 0 ∧ t.line.issuedVetoes = 0)

section
variable {s t u : State}

theorem Steady.trans (h : Steady s t) (h' : Steady t u) : Steady s u where
  counter := h'.counter.trans h.counter
  sound := h'.sound ∘ h.sound
  own := h'.own.trans h.own
  issued := h'.issued.trans h.issued
  mute hm := by
    obtain hmute | ⟨hown, hissued⟩ := h.mute hm
    · exact h'.mute hmute
    · exact .inr ⟨Nat.eq_zero_of_le_zero (hown ▸ h'.own), Nat.eq_zero_of_le_zero (hissued ▸ h'.issued)⟩

/-- Neither the Timebase nor a veto count is touched, and the station state is kept or was not MUTE. -/
theorem Steady.of_frame (htb : t.timebase = s.timebase) (hown : t.line.ownVetoes = s.line.ownVetoes)
    (hissued : t.line.issuedVetoes = s.line.issuedVetoes) (hst : s.member.state = .mute → t.member.state = .mute) : Steady s t where
  counter := by rw [htb]
  sound h := by rwa [htb]
  own := hown.le
  issued := hissued.le
  mute hm := .inl (hst hm)

/-- The usual case: the frame lemmas show that timebase, line and station state are as they were. -/
theorem Steady.of_same (h : t.timebase = s.timebase ∧ t.line = s.line ∧ t.member.state = s.member.state) : Steady s t := by
  obtain ⟨htb, hl, hst⟩ := h
  exact .of_frame htb (by rw [hl]) (by rw [hl]) (by rw [hst]; exact id)

theorem Steady.of_not_mute (hst : s.member.state ≠ .mute) (h : t.timebase = s.timebase ∧ t.line = s.line) : Steady s t := by
  obtain ⟨htb, hl⟩ := h
  exact .of_frame htb (by rw [hl]) (by rw [hl]) (fun hm => absurd hm hst)

theorem Steady.refl (s : State) : Steady s s := .of_same ⟨rfl, rfl, rfl⟩

theorem Steady.vetoSound (h : Steady s t) (hs : s.VetoSound) : t.VetoSound := by
  obtain ⟨hown, hissued, hbelow⟩ := hs
  refine ⟨h.own.trans hown, h.issued.trans hissued, fun hst => ?_⟩
  by_cases hm : s.member.state = .mute
  · obtain hmute | ⟨hown', hissued'⟩ := h.mute hm
    · exact absurd hmute hst
    · omega
  · exact ⟨h.own.trans_lt (hbelow hm).1, h.issued.trans_lt (hbelow hm).2⟩

end

/-! ## The Timebase's own operations (R69 to R73, R78) -/

theorem sample_count (t : Timebase) (err : Int) (h : t.count ≤ 255) : (t.sample err).count ≤ 255 := by
  unfold Timebase.sample
  split
  · rename_i hlt; exact hlt
  · exact h

theorem sample_clock (t : Timebase) (err : Int) :
    (t.sample err).counter = t.counter ∧ (t.sample err).trim = t.trim ∧ (t.sample err).residue = t.residue
      ∧ (t.sample err).tickCycles = t.tickCycles := by
  unfold Timebase.sample; split <;> simp

theorem sample_sound {t : Timebase} (err : Int) (h : t.Sound) : (t.sample err).Sound := by
  obtain ⟨-, htrim, hres, hcyc⟩ := sample_clock t err
  obtain ⟨hlo, hhi, hrlo, hrhi, hclo, hchi, hcount⟩ := h
  rw [Timebase.Sound, htrim, hres, hcyc]
  exact ⟨hlo, hhi, hrlo, hrhi, hclo, hchi, sample_count t err hcount⟩

theorem corrected_range (t : Timebase) (h : -512 ≤ t.trim ∧ t.trim ≤ 511) : -512 ≤ t.corrected ∧ t.corrected ≤ 511 := by
  unfold Timebase.corrected clampInt
  split
  · exact h
  · simp only [Config.trimMin, Config.trimMax]; omega

theorem endRound_sound {t : Timebase} (d span : Tick) (h : t.Sound) : (t.endRound d span).Sound := by
  obtain ⟨hlo, hhi, hres, hres', hcyc, hcyc', -⟩ := h
  obtain ⟨hlo', hhi'⟩ := corrected_range t ⟨hlo, hhi⟩
  exact ⟨hlo', hhi', hres, hres', hcyc, hcyc', Nat.zero_le _⟩

theorem endingRound_sound {s : State} (h : s.timebase.Sound) : s.endingRound.Sound := by
  obtain ⟨-, he⟩ | ⟨-, he⟩ := s.endingRound_spec <;> rw [he]
  · exact h
  · obtain ⟨hlo, hhi, hres, hres', hcyc, hcyc', -⟩ := h
    exact ⟨hlo, hhi, hres, hres', hcyc, hcyc', Nat.zero_le _⟩

theorem endingRound_counter (s : State) : s.endingRound.counter = s.timebase.counter := by
  obtain ⟨-, he⟩ | ⟨-, he⟩ := s.endingRound_spec <;> rw [he]

theorem endRound_timebase (s : State) (d : Tick) : (s.endRound d).timebase = s.endingRound.endRound d s.roundSpan := by
  simp only [State.endRound]; split <;> rfl

theorem endRound_steady (s : State) (d : Tick) : Steady s (s.endRound d) where
  counter := by rw [endRound_timebase]; exact endingRound_counter s
  sound h := by rw [endRound_timebase]; exact endRound_sound d _ (endingRound_sound h)
  own := by simp
  issued := by simp
  mute h := .inl (by simpa using h)

theorem clearTimebase_timebase (s : State) :
    s.clearTimebase.timebase
      = { s.timebase with state := .free, quiet := false, sum := 0, count := 0, roundDeadline := some (s.now + s.roundSpan) } := by
  simp only [State.clearTimebase]; split <;> rfl

theorem restartRound_steady (s : State) : Steady s s.restartRound where
  counter := rfl
  sound := by
    rintro ⟨hlo, hhi, hres, hres', hcyc, hcyc', -⟩
    exact ⟨hlo, hhi, hres, hres', hcyc, hcyc', Nat.zero_le _⟩
  own := le_rfl
  issued := le_rfl
  mute := .inl

/-! ## Station clear and what ends in one (R128) -/

/-- The counter stands, the Timebase keeps its ranges, and both veto counts are 0 after it, whatever the state. -/
structure Clears (s t : State) : Prop where
  counter : t.timebase.counter = s.timebase.counter
  sound : s.timebase.Sound → t.timebase.Sound
  zero : t.line.ownVetoes = 0 ∧ t.line.issuedVetoes = 0

theorem Clears.steady {s t : State} (h : Clears s t) : Steady s t where
  counter := h.counter
  sound := h.sound
  own := by rw [h.zero.1]; exact Nat.zero_le _
  issued := by rw [h.zero.2]; exact Nat.zero_le _
  mute _ := .inr h.zero

theorem Clears.of_timebase {s t u : State} (h : Clears t u) (htb : t.timebase = s.timebase) : Clears s u :=
  ⟨htb ▸ h.counter, htb ▸ h.sound, h.zero⟩

theorem stationClear_clears (s : State) (ev : EventRecord) : Clears s (s.stationClear ev) where
  counter := by simp only [State.stationClear, clearTimebase_timebase]; rfl
  sound := by
    rintro ⟨hlo, hhi, hres, hres', hcyc, hcyc', -⟩
    simp only [State.stationClear, clearTimebase_timebase]
    exact ⟨hlo, hhi, hres, hres', hcyc, hcyc', Nat.zero_le _⟩
  zero := ⟨rfl, rfl⟩

theorem leavingEnds_clears (s : State) : Clears s s.leavingEnds := stationClear_clears s _

theorem abandonEnds_clears (s : State) : Clears s s.abandonEnds where
  counter := by simpa [State.abandonEnds, State.enterBeaconing] using (stationClear_clears s _).counter
  sound := by simpa [State.abandonEnds, State.enterBeaconing] using (stationClear_clears s _).sound
  zero := by simpa [State.abandonEnds, State.enterBeaconing] using (stationClear_clears s _).zero

/-! ## A frame at a live replica and roster (R7) -/

theorem liveQuit_steady (s : State) (d : Delivered) (b : Bool) : Steady s (s.liveQuit d b) := by
  unfold State.liveQuit State.ownQuit State.peerQuit
  split_ifs
  · exact .refl s
  · exact (leavingEnds_clears s).steady
  · exact (abandonEnds_clears s).steady
  · exact .refl s
  · exact .of_same (by simp)
  · exact .of_same (by simp)

theorem liveDepart_steady (s : State) (d : Delivered) (p : Station) (b : Bool) : Steady s (s.liveDepart d p b) := by
  refine .of_same ⟨by simp, by simp, ?_⟩
  unfold State.liveDepart
  split_ifs <;> simp

theorem liveApply_steady (s : State) (d : Delivered) (i p : Word16) : Steady s (s.liveApply d i p) := by
  refine .of_same ⟨by simp, by simp, ?_⟩
  unfold State.liveApply
  split
  · rfl
  · split
    · split_ifs <;> rfl
    · simp only; split <;> simp

theorem liveAdmit_steady (s : State) (d : Delivered) (j : Station) (i : Word16) : Steady s (s.liveAdmit d j i) := by
  unfold State.liveAdmit; split <;> exact .of_same (by simp)

theorem liveSnapshot_steady (s : State) (d : Delivered) (j : Station) : Steady s (s.liveSnapshot d j) := by
  unfold State.liveSnapshot; split <;> exact .of_same (by simp)

theorem liveSnapEnd_steady (s : State) (d : Delivered) (j : Station) : Steady s (s.liveSnapEnd d j) := by
  refine .of_same ⟨by simp, by simp, ?_⟩
  simp only [State.liveSnapEnd]
  split_ifs <;> simp

theorem unknownBeacon_steady (s : State) (b : BeaconBody) : Steady s (s.unknownBeacon b) := by
  unfold State.unknownBeacon
  split
  · exact .of_same (by simp)
  · exact .refl s

theorem sampleBeacon_steady (s : State) (d : Delivered) (b : BeaconBody) : Steady s (s.sampleBeacon d b) := by
  have hsample (err : Int) : Steady s { s with timebase := s.timebase.sample err } :=
    ⟨(sample_clock s.timebase err).1, sample_sound err, le_rfl, le_rfl, .inl⟩
  simp only [State.sampleBeacon]
  split
  · split
    · exact .refl s
    · split
      · exact .of_same ⟨rfl, rfl, rfl⟩
      · exact hsample _
  · exact .refl s

theorem liveBeacon_steady (s : State) (d : Delivered) (b : BeaconBody) (x : Bool) : Steady s (s.liveBeacon d b x) := by
  unfold State.liveBeacon
  split_ifs
  · exact .refl s
  · have hrecord : Steady (s.sampleBeacon d b) ((s.sampleBeacon d b).recordBeacon d b) := .of_same ⟨rfl, rfl, rfl⟩
    exact ((sampleBeacon_steady s d b).trans hrecord).trans (.of_same (by simp))
  · exact unknownBeacon_steady s b

theorem liveEffects_steady (s : State) (d : Delivered) (b : Bool) : Steady s (s.liveEffects d b) := by
  unfold State.liveEffects
  cases d.frame with
  | claim | drop | extend | withdraw | revoke | found => exact .of_same (by simp)
  | quit => exact liveQuit_steady s d b
  | depart p => exact liveDepart_steady s d p b
  | apply i p => exact liveApply_steady s d i p
  | admitJoiner j i => exact liveAdmit_steady s d j i
  | decline => exact .of_same ⟨by simp, by simp, renewPresence_state s _ _⟩
  | snapshot j => exact liveSnapshot_steady s d j
  | snapEnd j => exact liveSnapEnd_steady s d j
  | beacon body => exact liveBeacon_steady s d body b

theorem applyLive_steady (s : State) (d : Delivered) (b : Bool) : Steady s (s.applyLive d b) :=
  Steady.trans (u := (s.liveEffects d b).finishApplication b) (liveEffects_steady s d b) (.of_same (by simp))

theorem replay_steady (s : State) (ds : List Delivered) : Steady s (s.replay ds) := by
  induction ds generalizing s with
  | nil => exact .refl s
  | cons d ds ih => exact (applyLive_steady s d true).trans (ih (s.applyLive d true))

/-! ## A frame in LISTEN, at a joiner and in LEAVING (R101 to R127) -/

theorem listenFrame_steady (s : State) (d : Delivered) (hst : s.member.state = .listen) : Steady s (s.listenFrame d) :=
  .of_not_mute (by simp [hst]) (by simp)

theorem failAttempt_steady (s : State) (r : FailReason) (hst : s.member.state ≠ .mute) : Steady s (s.failAttempt r) :=
  .of_not_mute hst (by simp)

theorem closeAttempt_steady (s : State) (r : FailReason) : Steady s (s.closeAttempt r) := by
  unfold State.closeAttempt
  split
  · exact (stationClear_clears s _).steady
  · exact .of_same ⟨rfl, rfl, rfl⟩

theorem joinerDeclined_steady (s : State) (r : Byte) : Steady s (s.joinerDeclined r) := by
  unfold State.joinerDeclined
  split_ifs
  · exact .of_same ⟨rfl, rfl, rfl⟩
  · exact (stationClear_clears s _).steady
  · exact (stationClear_clears s _).steady
  · exact .refl s

/-- The replay is the only part of a completed join that can reach the Timebase or a count. -/
theorem completeJoin_steady (s : State) (a : Attempt) (ap : AdmissionPart) (b : Rebuild) (stamp : Tick) (hst : s.member.state ≠ .mute) :
    Steady s (s.completeJoin a ap b stamp) := by
  let loaded : State := { s with replica := (s.leaseContext a.stamp).loadReplica b (ap.capture + a.accepted + 1) s.replica }
  have hreplay : Steady s (loaded.replay a.catchup) := Steady.trans (t := loaded) (.of_same ⟨rfl, rfl, rfl⟩) (replay_steady loaded a.catchup)
  obtain ⟨htb, hl⟩ : (s.completeJoin a ap b stamp).timebase = (loaded.replay a.catchup).timebase
      ∧ (s.completeJoin a ap b stamp).line = (loaded.replay a.catchup).line := by
    simp [State.completeJoin, loaded]
  exact ⟨htb ▸ hreplay.counter, htb ▸ hreplay.sound, hl ▸ hreplay.own, hl ▸ hreplay.issued, fun h => absurd h hst⟩

theorem joinerSnapEnd_steady (s : State) (a : Attempt) (ap : AdmissionPart) (x : Word16) (t : Tick) (hst : s.member.state ≠ .mute) :
    Steady s (s.joinerSnapEnd a ap x t) := by
  unfold State.joinerSnapEnd
  split
  · split
    · exact completeJoin_steady s a ap _ t hst
    · exact failAttempt_steady s _ hst
  · exact failAttempt_steady s _ hst
  · exact failAttempt_steady s _ hst

theorem storeFrame_steady (s : State) (a : Attempt) (d : Delivered) (hst : s.member.state ≠ .mute) : Steady s (s.storeFrame a d) :=
  .of_not_mute hst (by simp)

theorem attemptFrame_steady (s : State) (a : Attempt) (d : Delivered) (hst : s.member.state ≠ .mute) : Steady s (s.attemptFrame a d) := by
  unfold State.attemptFrame
  cases d.frame with
  | beacon => exact .refl s
  | admitJoiner =>
    simp only
    split
    · exact .of_not_mute hst (by simp)
    · exact .refl s
  | decline b =>
    simp only
    split
    · exact joinerDeclined_steady s b.reason
    · exact .refl s
  | snapshot =>
    cases a.admission with
    | none => exact .refl s
    | some ap =>
      simp only
      split
      · exact .of_not_mute hst (by simp)
      · exact .refl s
  | snapEnd j dg =>
    cases a.admission with
    | none => exact .refl s
    | some ap =>
      simp only
      split
      · exact joinerSnapEnd_steady s a ap dg d.stamp hst
      · exact .refl s
  | quit | depart =>
    simp only
    split
    · exact failAttempt_steady s _ hst
    · exact storeFrame_steady s a d hst
  | found | apply | revoke | claim | drop | extend | withdraw => exact storeFrame_steady s a d hst

theorem joinerFrame_steady (s : State) (d : Delivered) (hst : s.member.state ≠ .mute) : Steady s (s.joinerFrame d) := by
  have htaken (a : Attempt) : Steady s ((s.setAttempt a).attemptFrame a d) :=
    Steady.trans (t := s.setAttempt a) (.of_same ⟨rfl, rfl, rfl⟩) (attemptFrame_steady (s.setAttempt a) a d hst)
  unfold State.joinerFrame
  split
  · split
    · split
      · exact .of_same ⟨rfl, rfl, rfl⟩
      · exact .refl s
    · exact .refl s
  · split
    · split
      · exact closeAttempt_steady s _
      · exact .refl s
    · exact htaken _
    · exact htaken _

theorem leavingFrame_steady (s : State) (d : Delivered) : Steady s (s.leavingFrame d) := by
  unfold State.leavingFrame
  split
  · exact .refl s
  · cases d.frame with
    | quit => exact (leavingEnds_clears s).steady
    | found | apply => exact .of_same (by simp)
    | depart | beacon | admitJoiner | decline | snapshot | snapEnd | revoke | claim | drop | extend | withdraw => exact .refl s

/-! ## Handing a frame inward (R158, R159) -/

theorem routeFrame_steady (s : State) (d : Delivered) : Steady s (s.routeFrame d) := by
  unfold State.routeFrame
  cases hst : s.member.state with
  | unconfigured | offline => exact .refl s
  | listen => exact listenFrame_steady s d hst
  | joining | catchup => exact joinerFrame_steady s d (by simp [hst])
  | founding | online => exact applyLive_steady s d false
  | mute =>
    simp only
    split
    · exact applyLive_steady s d false
    · exact .refl s
  | leaving =>
    simp only
    split
    · exact applyLive_steady s d false
    · exact leavingFrame_steady s d

theorem receive_steady (s : State) (d : Delivered) : Steady s (s.receive d) := by
  unfold State.receive
  extract_lets taken noted cleared t
  have htaken : Steady s taken := by simp only [taken]; split <;> exact .of_same ⟨rfl, rfl, rfl⟩
  have hcleared : Steady s cleared := htaken.trans (.of_same ⟨rfl, rfl, rfl⟩)
  have ht : Steady s t := htaken.trans (.of_same (by simp [t]))
  split
  · split
    · exact hcleared.trans (routeFrame_steady cleared d)
    · exact hcleared
  · split
    · exact ht.trans (stationClear_clears t _).steady
    · exact ht.trans (routeFrame_steady t d)

theorem deliver_steady (s : State) (k : FrameKind) : Steady s (s.deliver k) := by
  obtain ⟨-, h⟩ | ⟨d, rest, -, -, h⟩ := s.deliver_spec k <;> rw [h]
  · exact .refl s
  · exact Steady.trans (t := s.dropDelivery) (.of_frame rfl rfl rfl id) (receive_steady s.dropDelivery d)

/-! ## The Command Engine (R98, R100, R124, R38) -/

theorem configure_steady (s : State) (r : CommandRecord) (hst : s.member.state ≠ .mute) : Steady s (s.configure r) := by
  let chosen : State := { s with config := some r.config, member := { s.member with state := .offline } }
  have hround : Steady s chosen.restartRound := Steady.trans (t := chosen) (.of_not_mute hst ⟨rfl, rfl⟩) (restartRound_steady chosen)
  refine hround.trans (.of_frame (by simp [State.configure, chosen]) ?_ ?_ (fun h => ?_))
  · simp only [State.configure, State.configureLine]; split <;> rfl
  · simp only [State.configure, State.configureLine]; split <;> rfl
  · cases h

theorem leaveByQuit_steady (s : State) (tag : Byte) (hst : s.member.state ≠ .mute) : Steady s (s.leaveByQuit tag) := by
  simp only [State.leaveByQuit]
  split <;> exact .of_not_mute hst (by simp)

theorem leaveEarly_steady (s : State) (tag : Byte) (hst : s.member.state ≠ .mute) : Steady s (s.leaveEarly tag) := by
  have hown : Steady s s.withdrawOwn.2 := .of_same (by simp)
  simp only [State.leaveEarly]
  split
  · exact .of_not_mute hst (by simp)
  · exact hown.trans (stationClear_clears _ _).steady

theorem startLeave_steady (s : State) (tag : Byte) : Steady s (s.startLeave tag) := by
  unfold State.startLeave
  cases hst : s.member.state with
  | online | founding | catchup => exact leaveByQuit_steady s tag (by simp [hst])
  | joining =>
    simp only
    split
    · exact leaveByQuit_steady s tag (by simp [hst])
    · exact leaveEarly_steady s tag (by simp [hst])
  | listen => exact leaveEarly_steady s tag (by simp [hst])
  | mute => exact (stationClear_clears s _).steady
  | unconfigured | offline | leaving => exact .refl s

theorem queueSlotFrame_steady (s : State) (i : Fin 8) (sl : Slot) (k : LeaseKind) (f : Frame) : Steady s (s.queueSlotFrame i sl k f) :=
  .of_same (by simp)

theorem actAcquire_steady {s t : State} {r : CommandRecord} (ht : s.actAcquire r = .ok t) : Steady s t := by
  simp only [State.actAcquire] at ht
  split at ht
  · cases ht
  · split at ht <;> cases ht
    exact queueSlotFrame_steady _ _ _ _ _

theorem actRenew_steady {s t : State} {r : CommandRecord} (ht : s.actRenew r = .ok t) : Steady s t := by
  simp only [State.actRenew] at ht
  split at ht
  · cases ht
  · split at ht <;> cases ht
    exact queueSlotFrame_steady _ _ _ _ _

theorem actRelease_steady {s t : State} {r : CommandRecord} (ht : s.actRelease r = .ok t) : Steady s t := by
  simp only [State.actRelease] at ht
  split at ht
  · cases ht
  · split at ht <;> cases ht
    exact queueSlotFrame_steady _ _ _ _ _

theorem actCancel_steady {s t : State} {r : CommandRecord} (ht : s.actCancel r = .ok t) : Steady s t := by
  simp only [State.actCancel] at ht
  split at ht
  · cases ht
  · rename_i i _
    cases hst : (s.slot i).state with
    | sending =>
      simp only [hst] at ht
      split at ht
      · cases ht
      · split at ht <;> cases ht <;> exact .of_same (by simp)
    | waiting =>
      simp only [hst] at ht
      cases ht
      exact queueSlotFrame_steady _ _ _ _ _
    | empty | held | renewing | releasing | lapsed | withdrawing | ending =>
      simp only [hst] at ht
      cases ht

/-- What a serving block does with a record of a kind it takes in this state is steady. -/
theorem acting_steady (k : CommandKind) (r : CommandRecord) {s t : State} (hk : k.takenIn s.member.state = true)
    (ht : LocalClaims.acting k r s = .ok t) : Steady s t := by
  cases k with
  | configure =>
    obtain rfl := Except.ok.inj ht
    exact configure_steady s r (fun h => by simp [CommandKind.takenIn, h] at hk)
  | join =>
    obtain rfl := Except.ok.inj ht
    exact .of_not_mute (fun h => by simp [CommandKind.takenIn, h] at hk) ⟨rfl, rfl⟩
  | leave =>
    obtain rfl := Except.ok.inj ht
    exact startLeave_steady s r.tag
  | acquire => exact actAcquire_steady ht
  | release => exact actRelease_steady ht
  | renew => exact actRenew_steady ht
  | cancel => exact actCancel_steady ht

theorem serve_steady (s : State) (k : CommandKind) (r : CommandRecord) : Steady s (s.serve k r (LocalClaims.acting k)) := by
  obtain ⟨-, h⟩ | ⟨-, -, h⟩ | ⟨hk, -, ⟨t, ht, h⟩ | ⟨reason, -, h⟩⟩ := s.serve_spec k r (LocalClaims.acting k) <;> rw [h]
  · exact .of_same ⟨rfl, rfl, rfl⟩
  · exact .of_same ⟨rfl, rfl, rfl⟩
  · exact acting_steady k r hk ht
  · exact .of_same ⟨rfl, rfl, rfl⟩

/-- Only the Host Port differs around what is done in a taking. -/
theorem answering_steady (s : State) (f : State → State) (hf : ∀ t, Steady t (f t)) : Steady s (s.answering f) := by
  have h := hf { s with host := { s.host with later := [] } }
  exact ⟨h.counter, h.sound, h.own, h.issued, h.mute⟩

theorem exec_taking_steady (k : CommandKind) {s t : State} (ht : exec k.taking s = .next t) : Steady s t := by
  rw [LocalClaims.exec_taking] at ht
  obtain rfl := Host.Outcome.next.inj ht
  obtain ⟨-, h⟩ | ⟨r, rest, -, -, h⟩ := s.takeRecord_spec k (LocalClaims.acting k) <;> rw [h]
  · exact .refl s
  · exact answering_steady s _ fun u => Steady.trans (t := u.dropCommand) (.of_same ⟨rfl, rfl, rfl⟩) (serve_steady u.dropCommand k r)

theorem badCommandRecord_steady {s t : State} (ht : exec .badCommandRecord s = .next t) : Steady s t := by
  obtain rfl := Host.Outcome.next.inj ht
  split
  · exact .refl s
  · split
    · exact answering_steady s _ fun u => .of_same ⟨rfl, rfl, rfl⟩
    · exact .refl s

/-! ## SPI transactions (R166 to R184): the Host Port alone -/

theorem ignoreByte_steady (s : State) (t : Transaction) : Steady s (s.ignoreByte t) := by
  unfold State.ignoreByte
  split
  · split
    · exact .of_same ⟨rfl, rfl, rfl⟩
    · exact .refl s
  · exact .refl s
  · exact .refl s

theorem spi_steady (s : State) (e : SpiEdge) (owns : Byte → Bool) (latch : State → Transaction → Transaction)
    {byteDone closed : Transaction → State → State} (hbyte : ∀ t u, Steady u (byteDone t u)) (hclosed : ∀ t u, Steady u (closed t u)) :
    Steady s (s.spi e owns latch byteDone closed) := by
  have hset (o : Option Transaction) : Steady s (s.setTransaction o) := .of_same ⟨rfl, rfl, rfl⟩
  obtain h | ⟨-, -, h⟩ | ⟨t, -, ⟨-, h⟩ | ⟨b, -, -, h⟩ | ⟨b, -, -, -, h⟩ | ⟨b, a, -, -, -, h⟩ | ⟨a, -, -, -, h⟩⟩ :=
    s.spi_spec e owns latch byteDone closed <;> rw [h]
  · exact .refl s
  · exact hset _
  · exact hset _
  · exact ignoreByte_steady s t
  · exact hset _
  · exact (hset _).trans (hbyte _ _)
  · exact (hset _).trans (hclosed _ _)

theorem noEffect_steady (t : Transaction) (s : State) : Steady s (noEffect t s) := .refl s

theorem putClosed_steady (t : Transaction) (s : State) : Steady s (putClosed t s) := by
  unfold putClosed
  split
  · exact .of_same ⟨rfl, rfl, rfl⟩
  · exact .refl s

theorem takeClocked_steady (t : Transaction) (s : State) : Steady s (takeClocked t s) := by
  unfold takeClocked
  split
  · exact .of_same ⟨rfl, rfl, rfl⟩
  · exact .refl s

theorem resetClosed_steady (t : Transaction) (s : State) : Steady s (resetClosed t s) := .of_same ⟨rfl, rfl, rfl⟩

theorem viewNamed_steady (view : State → Byte → List Byte) (t : Transaction) (s : State) : Steady s (viewNamed view t s) := by
  unfold viewNamed
  split
  · exact .of_same ⟨rfl, rfl, rfl⟩
  · exact .refl s

/-! ## Expiries (R23, R43, R88, R82, R102 to R123) -/

theorem expireHolder_steady (s : State) (r : Fin 64) (h : Holder) : Steady s (s.expireHolder r h) := by
  simp only [State.expireHolder]; split <;> exact .of_same ⟨rfl, rfl, rfl⟩

theorem replicaExpiry_steady (s : State) (r : Fin 64) (p : Station) : Steady s (s.replicaExpiry r p) := by
  unfold State.replicaExpiry
  split
  · split
    · exact expireHolder_steady s r _
    · exact .refl s
  · exact .refl s

theorem presenceExpiry_steady (s : State) (p : Station) : Steady s (s.presenceExpiry p) := by
  simp only [State.presenceExpiry]
  split_ifs
  · exact .of_same ⟨rfl, rfl, rfl⟩
  · exact .of_same ⟨rfl, rfl, rfl⟩
  · exact .refl s

theorem beaconSchedule_steady {s t : State} (ht : exec .beaconSchedule s = .next t) : Steady s t := by
  obtain rfl := Host.Outcome.next.inj ht
  split
  · split
    · exact .of_same (by simp)
    · exact .refl s
  · exact .refl s

theorem listenWindow_steady {s t : State} (ht : exec .listenWindow s = .next t) : Steady s t := by
  obtain rfl := Host.Outcome.next.inj ht
  split
  · exact .of_same (by simp)
  · exact .refl s

theorem foundingPeriod_steady {s t : State} (ht : exec .foundingPeriod s = .next t) : Steady s t := by
  obtain rfl := Host.Outcome.next.inj ht
  split
  · rename_i h
    exact .of_not_mute (fun hm => by simp [hm] at h) (by simp)
  · exact .refl s

theorem joinAttemptTimer_steady {s t : State} (ht : exec .joinAttemptTimer s = .next t) : Steady s t := by
  obtain rfl := Host.Outcome.next.inj ht
  split
  · rename_i h
    exact failAttempt_steady s _ (fun hm => by simp [hm] at h)
  · exact .refl s

theorem joinBackoff_steady {s t : State} (ht : exec .joinBackoff s = .next t) : Steady s t := by
  obtain rfl := Host.Outcome.next.inj ht
  split
  · exact .of_same (by simp)
  · exact .refl s

theorem roundEnd_steady {s t : State} (ht : exec .roundEnd s = .next t) : Steady s t := by
  obtain rfl := Host.Outcome.next.inj ht
  split
  · split
    · exact endRound_steady s _
    · exact .refl s
  · exact .refl s

theorem selfExpiry_steady {i : Fin 8} {s t : State} (ht : exec (.selfExpiry i) s = .next t) : Steady s t := by
  obtain rfl := Host.Outcome.next.inj ht
  split
  · exact .of_same (by simp)
  · exact .refl s

/-! ## Lost and vetoed attempts at the Transmit Queue (R134, R136, R137, R143) -/

/-- The station state and the line are kept, or a station clear has set both counts to 0. -/
def KeepsStateOrClears (s t : State) : Prop :=
  (t.timebase = s.timebase ∧ t.line = s.line ∧ t.member.state = s.member.state) ∨ Clears s t

theorem KeepsStateOrClears.steady {s t : State} (h : KeepsStateOrClears s t) : Steady s t := by
  obtain hsame | hclears := h
  · exact .of_same hsame
  · exact hclears.steady

theorem frameDiscarded_keeps (s : State) (id : FrameId) : KeepsStateOrClears s (s.frameDiscarded id) := by
  have hown (k : OwnKind) : KeepsStateOrClears s (s.ownDiscarded k) := by
    unfold State.ownDiscarded
    split
    · exact .inr (leavingEnds_clears s)
    · exact .inl (by simp)
  cases id with
  | claim | drop | extend | withdraw | revoke => exact .inl (by simp [State.frameDiscarded])
  | depart p => exact .inl (by simp [State.frameDiscarded])
  | found | apply | quit => exact hown _
  | beacon | stream | decline => exact .inl ⟨rfl, rfl, rfl⟩

theorem orphanDiscarded_frame (s : State) (id : FrameId) :
    (s.orphanDiscarded id).timebase = s.timebase ∧ (s.orphanDiscarded id).line = s.line
      ∧ (s.orphanDiscarded id).member.state = s.member.state := by
  unfold State.orphanDiscarded; split <;> simp

theorem attemptLost_keeps (s : State) : KeepsStateOrClears s s.attemptLost := by
  simp only [State.attemptLost]
  split
  · exact .inl ⟨rfl, rfl, rfl⟩
  · exact .inl ⟨rfl, rfl, rfl⟩
  · exact (frameDiscarded_keeps { s with tx := s.tx.lose.2 } _).imp id (fun h => h.of_timebase rfl)
  · exact .inl (orphanDiscarded_frame { s with tx := s.tx.lose.2 } _)

/-! ## The line (R147 to R157) -/

theorem settleRate_steady (s : State) : Steady s s.settleRate := by
  unfold State.settleRate; split
  · exact .of_frame rfl rfl rfl id
  · exact .refl s

theorem idleReport_steady (s : State) : Steady s s.idleReport := by
  obtain ⟨e, -, -, -, -, h⟩ | ⟨-, h⟩ := s.idleReport_spec <;> rw [h]
  · exact .of_frame rfl rfl rfl id
  · exact .refl s

theorem loseArbitration_steady (s : State) (levels : List Level) : Steady s (s.loseArbitration levels) := by
  have hlost (d : FrameDecode) (rx : Rx) : Steady s { s with line := s.line.loseTo d rx }.attemptLost.settleRate :=
    Steady.trans (t := { s with line := s.line.loseTo d rx }) (.of_frame rfl rfl rfl id) ((attemptLost_keeps _).steady.trans (settleRate_steady _))
  unfold State.loseArbitration
  split
  · exact .refl s
  · split
    · exact .refl s
    · split
      · exact hlost _ _
      · exact .refl s

theorem accept_counts (l : LineController) (st : StationState) (levels : List Level) (d : Delivered) :
    (l.accept st levels d).ownVetoes ≤ l.ownVetoes ∧ (l.accept st levels d).issuedVetoes ≤ l.issuedVetoes := by
  simp only [LineController.accept]
  constructor <;> split <;> simp

theorem acceptFrame_steady (s : State) (levels : List Level) : Steady s (s.acceptFrame levels) := by
  have haccept (d : Delivered) (q : TransmitQueue) : Steady s { s with line := s.line.accept s.member.state levels d, tx := q } :=
    ⟨rfl, id, (accept_counts s.line _ levels d).1, (accept_counts s.line _ levels d).2, .inl⟩
  have hsettle (t : State) : Steady t t.serviceRevocations.settleRate :=
    Steady.trans (t := t.serviceRevocations) (.of_same (by simp)) (settleRate_steady _)
  unfold State.acceptFrame
  split
  · exact .refl s
  · split
    · exact .refl s
    · split
      · exact .refl s
      · split
        · split
          · exact haccept _ s.tx
          · split
            · exact (haccept _ s.tx.accept).trans (hsettle _)
            · exact .refl s
        · exact .refl s

theorem readBit_counts (l : LineController) (b : Level) :
    (l.readBit b).ownVetoes = l.ownVetoes ∧ (l.readBit b).issuedVetoes = l.issuedVetoes := by
  obtain ⟨-, h⟩ | ⟨-, -, -, h⟩ | ⟨-, -, -, h⟩ | ⟨-, h⟩ := l.readBit_spec b <;> rw [h] <;> exact ⟨rfl, rfl⟩

theorem recessiveRead_steady (s : State) : Steady s s.recessiveRead :=
  .of_frame rfl (readBit_counts s.line true).1 (readBit_counts s.line true).2 id

theorem dominantRead_steady (s : State) : Steady s s.dominantRead := by
  obtain ⟨hown, hissued⟩ := readBit_counts s.line false
  have hbit : Steady s { s with line := s.line.readBit false } := .of_frame rfl hown hissued id
  unfold State.dominantRead
  cases s.line.phase with
  | idle => exact .of_frame rfl rfl rfl id
  | seekingIdle | inFrame | silent => exact hbit

/-! ## Vetoes and muting (R155, R160, R161, R162) -/

/-- The counter stands, and the ranges of the Timebase and the bounds of the veto counts are kept. -/
structure Advances (s t : State) : Prop where
  counter : t.timebase.counter = s.timebase.counter
  sound : s.timebase.Sound → t.timebase.Sound
  vetoes : s.VetoSound → t.VetoSound

theorem Steady.advances {s t : State} (h : Steady s t) : Advances s t := ⟨h.counter, h.sound, h.vetoSound⟩

theorem offers_ne_mute {st : StationState} (h : st.offers = true) : st ≠ .mute := by
  rintro rfl; cases h

/-- Entering MUTE keeps the counts, and a station in LEAVING clears them instead (R127, R162). -/
theorem enterMute_spec (s : State) (detail : Byte) (threshold : Nat) (hst : s.member.state.offers = true) :
    ((s.enterMute detail threshold).member.state = .mute ∧ (s.enterMute detail threshold).line = s.line
        ∧ (s.enterMute detail threshold).timebase = s.timebase)
      ∨ Clears s (s.enterMute detail threshold) := by
  unfold State.enterMute
  cases h : s.member.state with
  | leaving => exact .inr ((leavingEnds_clears _).of_timebase rfl)
  | online | founding | listen | joining | catchup => exact .inl ⟨rfl, by simp, by simp⟩
  | unconfigured | offline | mute => simp [h, StationState.offers] at hst

theorem enterMute_steady (s : State) (detail : Byte) (threshold : Nat) (hst : s.member.state.offers = true) :
    Steady s (s.enterMute detail threshold) := by
  obtain ⟨-, hl, htb⟩ | hclears := enterMute_spec s detail threshold hst
  · exact .of_not_mute (offers_ne_mute hst) ⟨htb, hl⟩
  · exact hclears.steady

/-- A count at its threshold is sound once the station has muted. -/
theorem enterMute_vetoSound (s : State) (detail : Byte) (threshold : Nat) (hst : s.member.state.offers = true) (hown : s.line.ownVetoes ≤ 16)
    (hissued : s.line.issuedVetoes ≤ 32) : (s.enterMute detail threshold).VetoSound := by
  obtain ⟨hmute, hl, -⟩ | hclears := enterMute_spec s detail threshold hst
  · exact ⟨by rwa [hl], by rwa [hl], fun h => absurd hmute h⟩
  · obtain ⟨hown0, hissued0⟩ := hclears.zero
    exact ⟨by omega, by omega, fun _ => by omega⟩

theorem muteOnOwn_steady (s : State) (counted : Bool) : Steady s (s.muteOnOwn counted) := by
  unfold State.muteOnOwn
  split
  · rename_i h
    simp only [Bool.and_eq_true] at h
    exact enterMute_steady s _ _ h.2
  · exact .refl s

theorem muteOnIssued_steady (s : State) (counted : Bool) : Steady s (s.muteOnIssued counted) := by
  unfold State.muteOnIssued
  split
  · rename_i h
    simp only [Bool.and_eq_true] at h
    exact enterMute_steady s _ _ h.2
  · exact .refl s

/-- The own-frame veto count has been advanced to its threshold at most (R160). -/
theorem muteOnOwn_vetoSound (s : State) (hst : s.member.state.offers = true) (hown : s.line.ownVetoes ≤ 16) (hissued : s.line.issuedVetoes < 32) :
    (s.muteOnOwn true).VetoSound := by
  simp only [State.muteOnOwn, Config.ownVetoThreshold, Bool.true_and, Bool.and_eq_true, beq_iff_eq]
  split
  · exact enterMute_vetoSound s _ _ hst hown hissued.le
  · rename_i h
    have hne : s.line.ownVetoes ≠ 16 := fun h16 => h ⟨h16, hst⟩
    exact ⟨hown, hissued.le, fun _ => ⟨by omega, hissued⟩⟩

/-- The issued-veto count has been advanced to its threshold at most (R161). -/
theorem muteOnIssued_vetoSound (s : State) (hst : s.member.state.offers = true) (hown : s.line.ownVetoes < 16) (hissued : s.line.issuedVetoes ≤ 32) :
    (s.muteOnIssued true).VetoSound := by
  simp only [State.muteOnIssued, Config.issuedVetoThreshold, Bool.true_and, Bool.and_eq_true, beq_iff_eq]
  split
  · exact enterMute_vetoSound s _ _ hst hown.le hissued
  · rename_i h
    have hne : s.line.issuedVetoes ≠ 32 := fun h32 => h ⟨h32, hst⟩
    exact ⟨hown.le, hissued, fun _ => ⟨hown, by omega⟩⟩

theorem below_of_offers {s : State} (hs : s.VetoSound) (hst : s.member.state.offers = true) :
    s.line.ownVetoes < 16 ∧ s.line.issuedVetoes < 32 := by
  obtain ⟨-, -, hbelow⟩ := hs
  exact hbelow (offers_ne_mute hst)

/-- An own frame vetoed: the count is advanced below the threshold's bound, and the attempt's end keeps the station state or clears both counts. -/
theorem ownVetoes_vetoSound (s : State) (counts : Bool) (hcounts : counts = true → s.member.state.offers = true) (hs : s.VetoSound) :
    (((s.countOwnVeto counts).attemptLost).muteOnOwn counts).VetoSound := by
  cases counts with
  | false => exact (attemptLost_keeps s).steady.vetoSound hs
  | true =>
    have hoffers := hcounts rfl
    obtain ⟨hown, hissued⟩ := below_of_offers hs hoffers
    obtain ⟨-, hl, hst⟩ | hclears := attemptLost_keeps (s.countOwnVeto true)
    · exact muteOnOwn_vetoSound _ (by rwa [hst]) (by rw [hl]; exact hown) (by rw [hl]; exact hissued)
    · obtain ⟨hown0, hissued0⟩ := hclears.zero
      exact (muteOnOwn_steady _ true).vetoSound ⟨by omega, by omega, fun _ => by omega⟩

theorem issuedVetoes_vetoSound (s : State) (counts : Bool) (hcounts : counts = true → s.member.state.offers = true) (hs : s.VetoSound) :
    ((s.countIssuedVeto counts).muteOnIssued counts).VetoSound := by
  cases counts with
  | false => exact hs
  | true =>
    have hoffers := hcounts rfl
    obtain ⟨hown, hissued⟩ := below_of_offers hs hoffers
    exact muteOnIssued_vetoSound (s.countIssuedVeto true) hoffers hown hissued

/-- A change that begins with a veto count advanced: the Timebase is reached by its steady part alone. -/
theorem Advances.of_steady {s t u : State} (htb : t.timebase = s.timebase) (h : Steady t u) (hv : s.VetoSound → u.VetoSound) : Advances s u :=
  ⟨htb ▸ h.counter, htb ▸ h.sound, hv⟩

theorem ownVetoed_advances (s : State) (levels : List Level) (misread : Bool) : Advances s (s.ownVetoed levels misread) := by
  simp only [State.ownVetoed]
  set closed : State := { s with line := s.line.endField levels (misread && s.member.state.offers) }
  set counts := s.member.state.offers && !s.orphanFlying
  have hclosed : s.VetoSound → closed.VetoSound := id
  have hcounts : counts = true → closed.member.state.offers = true := fun h => (Bool.and_eq_true _ _ ▸ h).1
  refine .of_steady (t := closed.countOwnVeto counts) (by simp [closed])
    (((attemptLost_keeps _).steady.trans (muteOnOwn_steady _ _)).trans (settleRate_steady _)) fun hs => ?_
  exact (settleRate_steady _).vetoSound (ownVetoes_vetoSound closed counts hcounts (hclosed hs))

theorem otherVetoed_advances (s : State) (levels : List Level) (faulty : Bool) : Advances s (s.otherVetoed levels faulty) := by
  simp only [State.otherVetoed]
  set drove := faulty && s.member.state.offers
  set closed : State := { s with line := s.line.endField levels drove }
  have hdrove : drove = true → closed.member.state.offers = true := fun h => (Bool.and_eq_true _ _ ▸ h).2
  exact .of_steady (t := closed.countIssuedVeto drove) (by simp [closed]) (muteOnIssued_steady _ _) (issuedVetoes_vetoSound closed drove hdrove)

theorem missInBody_advances (s : State) (levels : List Level) : Advances s (s.missInBody levels) := by
  simp only [State.missInBody]
  refine .of_steady (by simp) (muteOnIssued_steady _ _) fun hs => ?_
  exact issuedVetoes_vetoSound _ _ id hs

theorem vetoFrame_advances (s : State) (levels window : List Level) : Advances s (s.vetoFrame levels window) := by
  have hsame : Advances s s := (Steady.refl s).advances
  unfold State.vetoFrame
  split
  · exact hsame
  · split
    · split
      · exact ownVetoed_advances s _ _
      · exact hsame
    · split
      · exact otherVetoed_advances s _ _
      · exact hsame

theorem missOrphan_steady (s : State) (levels : List Level) : Steady s (s.missOrphan levels) := by
  unfold State.missOrphan
  split
  · exact .refl s
  · rename_i e _
    let ended : State := { s with line := s.line.endField (levels ++ openWindow) false, tx := s.tx.land }
    have hended : Steady s ended := .of_frame rfl rfl rfl id
    exact (hended.trans (.of_same (orphanDiscarded_frame ended e.frame.id))).trans (settleRate_steady _)

theorem missFrame_advances (s : State) (levels : List Level) : Advances s (s.missFrame levels) := by
  have hsame : Advances s s := (Steady.refl s).advances
  unfold State.missFrame
  split
  · exact hsame
  · split
    · split
      · exact (missOrphan_steady s levels).advances
      · exact hsame
    · split
      · exact hsame
      · split_ifs
        · exact missInBody_advances s levels
        · exact (Steady.of_frame rfl rfl rfl id : Steady s (s.missAtWindow levels)).advances
        · exact hsame

/-! ## Every command -/

/-- Every command but the fine tick and the device reset keeps the counter. -/
theorem exec_advances (c : Instr) {s t : State} (ht : exec c s = .next t) (htick : c ≠ .fineTick) (hreset : c ≠ .deviceReset) : Advances s t := by
  cases c with
  | deviceReset => exact absurd rfl hreset
  | fineTick => exact absurd rfl htick
  | putCommand e =>
    obtain rfl := Host.Outcome.next.inj ht
    exact (spi_steady s e _ _ noEffect_steady putClosed_steady).advances
  | takeEvent e =>
    obtain rfl := Host.Outcome.next.inj ht
    exact (spi_steady s e _ _ takeClocked_steady noEffect_steady).advances
  | readStatus e | voidAccess _ e =>
    obtain rfl := Host.Outcome.next.inj ht
    exact (spi_steady s e _ _ noEffect_steady noEffect_steady).advances
  | readLease e | readRoster e =>
    obtain rfl := Host.Outcome.next.inj ht
    exact (spi_steady s e _ _ (viewNamed_steady _) noEffect_steady).advances
  | portReset e =>
    obtain rfl := Host.Outcome.next.inj ht
    exact (spi_steady s e _ _ noEffect_steady resetClosed_steady).advances
  | badCommandRecord => exact (badCommandRecord_steady ht).advances
  | configure => exact (exec_taking_steady .configure ht).advances
  | join => exact (exec_taking_steady .join ht).advances
  | leave => exact (exec_taking_steady .leave ht).advances
  | acquire => exact (exec_taking_steady .acquire ht).advances
  | release => exact (exec_taking_steady .release ht).advances
  | renew => exact (exec_taking_steady .renew ht).advances
  | cancel => exact (exec_taking_steady .cancel ht).advances
  | frameStart =>
    obtain rfl := Host.Outcome.next.inj ht
    exact (idleReport_steady s).advances
  | arbitrationLoss levels =>
    obtain rfl := Host.Outcome.next.inj ht
    exact (loseArbitration_steady s levels).advances
  | frameAccepted levels =>
    obtain rfl := Host.Outcome.next.inj ht
    exact (acceptFrame_steady s levels).advances
  | frameVetoed read =>
    obtain rfl := Host.Outcome.next.inj ht
    split
    · exact (Steady.refl s).advances
    · exact vetoFrame_advances s _ _
  | missedFrame levels =>
    obtain rfl := Host.Outcome.next.inj ht
    exact missFrame_advances s levels
  | claimFrame | dropFrame | extendFrame | withdrawFrame | revokeFrame | quitFrame | departFrame | foundFrame | applyFrame | admitFrame
  | declineFrame | snapshotFrame | snapEndFrame | beaconFrame =>
    obtain rfl := Host.Outcome.next.inj ht
    exact (deliver_steady s _).advances
  | replicaDeadline r p =>
    obtain rfl := Host.Outcome.next.inj ht
    exact (replicaExpiry_steady s r p).advances
  | selfExpiry i => exact (selfExpiry_steady ht).advances
  | presenceDeadline p =>
    obtain rfl := Host.Outcome.next.inj ht
    exact (presenceExpiry_steady s p).advances
  | beaconSchedule => exact (beaconSchedule_steady ht).advances
  | listenWindow => exact (listenWindow_steady ht).advances
  | foundingPeriod => exact (foundingPeriod_steady ht).advances
  | joinAttemptTimer => exact (joinAttemptTimer_steady ht).advances
  | joinBackoff => exact (joinBackoff_steady ht).advances
  | roundEnd => exact (roundEnd_steady ht).advances
  | lineIdle =>
    obtain rfl := Host.Outcome.next.inj ht
    exact (recessiveRead_steady s).advances
  | startBitRead =>
    obtain rfl := Host.Outcome.next.inj ht
    exact (dominantRead_steady s).advances

theorem exec_fineTick (s : State) (h : s.host.rstN = true) :
    exec .fineTick s = .next { s with
      timebase := s.timebase.tick
      member := { s.member with incarnationCounter := s.member.incarnationCounter + 1 } } := by
  simp [exec, execFineTick, h]

theorem exec_fineTick_in_reset (s : State) (h : s.host.rstN = false) : exec .fineTick s = .next s := by
  simp [exec, execFineTick, h]

theorem tmod_nonpos {a b : Int} (h : a ≤ 0) : a.tmod b ≤ 0 := by
  have hneg := Int.tmod_nonneg b (Int.neg_nonneg.mpr h)
  rw [Int.neg_tmod] at hneg
  exact Int.neg_nonneg.mp hneg

/-- The phase residue and the length of the next fine tick: the residue plus the trim, split into whole cycles and what is left, of the same sign
(R60). -/
theorem tick_spec {t : Timebase} (h : t.Sound) :
    256 * ((t.tick.tickCycles : Int) - 256) + t.tick.residue = t.residue + t.trim
      ∧ (0 ≤ t.residue + t.trim → 0 ≤ t.tick.residue) ∧ (t.residue + t.trim ≤ 0 → t.tick.residue ≤ 0)
      ∧ -255 ≤ t.tick.residue ∧ t.tick.residue ≤ 255 ∧ 254 ≤ t.tick.tickCycles ∧ t.tick.tickCycles ≤ 258 := by
  obtain ⟨htrim, htrim', hres, hres', -, -, -⟩ := h
  have hsplit := Int.mul_tdiv_add_tmod (t.residue + t.trim) 256
  have hpos : 0 ≤ t.residue + t.trim → 0 ≤ (t.residue + t.trim).tmod 256 := fun h => Int.tmod_nonneg _ h
  have hneg : t.residue + t.trim ≤ 0 → (t.residue + t.trim).tmod 256 ≤ 0 := fun h => tmod_nonpos h
  have hlt : (t.residue + t.trim).tmod 256 < 256 := Int.tmod_lt_of_pos _ (by decide)
  have hgt : -256 < (t.residue + t.trim).tmod 256 := Int.lt_tmod_of_pos _ (by decide)
  simp only [Timebase.tick]
  omega

theorem tick_sound {t : Timebase} (h : t.Sound) : t.tick.Sound := by
  obtain ⟨-, -, -, hres, hres', hcyc, hcyc'⟩ := tick_spec h
  obtain ⟨htrim, htrim', -, -, -, -, hcount⟩ := h
  exact ⟨htrim, htrim', hres, hres', hcyc, hcyc', hcount⟩

/-- Settles O7: a fine tick keeps the ranges by R60, a device reset leaves 0, and every other command `Advances`. -/
theorem countersStayInTheirRanges : Obligations.CountersStayInTheirRanges := by
  have key (c : Instr) (s t : State) (ht : exec c s = .next t) : (s.VetoSound → t.VetoSound) ∧ (s.timebase.Sound → t.timebase.Sound) := by
    by_cases htick : c = .fineTick
    · subst htick
      cases hr : s.host.rstN with
      | false =>
        obtain rfl := Host.Outcome.next.inj ((exec_fineTick_in_reset s hr).symm.trans ht)
        exact ⟨id, id⟩
      | true =>
        obtain rfl := Host.Outcome.next.inj ((exec_fineTick s hr).symm.trans ht)
        exact ⟨id, tick_sound⟩
    · by_cases hreset : c = .deviceReset
      · subst hreset
        obtain rfl := Host.Outcome.next.inj ht
        exact ⟨fun _ => by simp [State.VetoSound, State.reset, LineController.reset],
          fun _ => by simp [Timebase.Sound, State.reset, Timebase.reset, Config.tickCycles]⟩
      · have hadv := exec_advances c ht htick hreset
        exact ⟨hadv.vetoes, hadv.sound⟩
  exact ⟨fun c s t hs ht => (key c s t ht).1 hs, fun c s t hs ht => (key c s t ht).2 hs⟩

/-- Settles O5: the tick's equation, the reset value, and the counter that every other command keeps. -/
theorem fineTickCounterCountsFineTicksOnly : Obligations.FineTickCounterCountsFineTicksOnly := by
  intro c s t ht
  by_cases htick : c = .fineTick
  · subst htick
    cases hr : s.host.rstN with
    | false =>
      obtain rfl := Host.Outcome.next.inj ((exec_fineTick_in_reset s hr).symm.trans ht)
      simp
    | true =>
      obtain rfl := Host.Outcome.next.inj ((exec_fineTick s hr).symm.trans ht)
      simp [Timebase.tick]
  · by_cases hreset : c = .deviceReset
    · subst hreset
      obtain rfl := Host.Outcome.next.inj ht
      simp [State.reset, Timebase.reset]
    · simp [htick, hreset, (exec_advances c ht htick hreset).counter]

/-- Settles O6: the witnesses are the length and residue that `Timebase.tick` computes. -/
theorem fineTickLengthFollowsTheTrim : Obligations.FineTickLengthFollowsTheTrim :=
  fun s => ⟨exec_fineTick_in_reset s, fun hr hs => ⟨_, _, exec_fineTick s hr, tick_spec hs⟩⟩

end Sys2Proof.Ranges
end

section
/-! PROOF. Lease time and the timebase (spec/03): deadlines that are ahead, bits outside a frame, CONFIGURE and JOIN, the end of a discipline round,
and the sample, record and digest of a peer's BEACON. -/

namespace Sys2Proof.LeaseTime

open Sys2Proof.Machine

/-! ## Deadlines ahead (R62) -/

theorem expired_of_ahead {now : Tick} {o : Option Tick} (h : ∀ x, o = some x → (now - x).toInt < 0) : expired now o = false := by
  cases o with
  | none => rfl
  | some d => exact (not_reached_iff now d).mpr (h d rfl)

theorem replicaExpiry_of_ahead {s : State} {r : Fin 64} {p : Station}
    (h : ∀ x ∈ (s.replica.table[r]).holders, x.station = p → (s.now - x.deadline).toInt < 0) : s.replicaExpiry r p = s := by
  unfold State.replicaExpiry
  split
  · rename_i x hx
    rw [Replica.entry_fin] at hx
    obtain ⟨hmem, hst⟩ := ResourceEntry.holder?_spec hx
    simp [(not_reached_iff s.now x.deadline).mpr (h x hmem hst)]
  · rfl

theorem presenceExpiry_of_ahead {s : State} {p : Station} (h : expired s.now (s.peer p).presence = false) : s.presenceExpiry p = s := by
  simp [State.presenceExpiry, h]

/-- Settles O60: each expiry asks for its deadline to be reached first. -/
theorem unreachedDeadlinesDoNotExpire : Obligations.UnreachedDeadlinesDoNotExpire := by
  intro s ahead
  have off {o : Option Tick} (h : ahead o) : expired s.now o = false := expired_of_ahead h
  refine ⟨fun r p h => ?_, fun i h => ?_, fun p h => ?_, fun h => ?_, fun h => ?_, fun h => ?_, fun h => ?_, fun h => ?_, fun h => ?_⟩
  · exact congrArg Host.Outcome.next (replicaExpiry_of_ahead h)
  · have hoff : expired s.now (s.slot i).deadline = false := off h
    simp [exec, execSelfExpiry, hoff]
  · exact congrArg Host.Outcome.next (presenceExpiry_of_ahead (off h))
  · cases hd : s.member.beaconDeadline with
    | none => simp [exec, execBeaconSchedule, hd]
    | some d => simp [exec, execBeaconSchedule, hd, (not_reached_iff s.now d).mpr (h d hd)]
  · simp [exec, execListenWindow, off h]
  · simp [exec, execFoundingPeriod, off h]
  · simp [exec, execJoinAttemptTimer, off h]
  · simp [exec, execJoinBackoff, off h]
  · cases hd : s.timebase.roundDeadline with
    | none => simp [exec, execRoundEnd, hd]
    | some d => simp [exec, execRoundEnd, hd, (not_reached_iff s.now d).mpr (h d hd)]

/-! ## Bits outside a frame (R148, R151, R156) -/

theorem readBit_seekingIdle {l : LineController} (h : l.phase = .seekingIdle) (b : Level) :
    l.readBit b = { l with recessiveRun := countLevel l.recessiveRun b, phase := phaseAfter (countLevel l.recessiveRun b) } := by
  simp [LineController.readBit, h]

theorem readBit_endField {l : LineController} (h : l.phase = .inFrame) (hd : l.decode = none) (hb : 1 < l.endBits) (b : Level) :
    l.readBit b = { l with recessiveRun := countLevel l.recessiveRun b, endBits := l.endBits - 1 } := by
  simp [LineController.readBit, h, hd, hb]

theorem readBit_endField_last {l : LineController} (h : l.phase = .inFrame) (hd : l.decode = none) (hb : l.endBits = 1) (b : Level) :
    l.readBit b
      = { l with recessiveRun := countLevel l.recessiveRun b, endBits := 0, phase := phaseAfter (countLevel l.recessiveRun b) } := by
  simp [LineController.readBit, h, hd, hb]

theorem exec_lineIdle (s : State) : exec .lineIdle s = .next { s with line := s.line.readBit true } := rfl

theorem exec_startBitRead {s : State} (h : s.line.phase ≠ .idle) : exec .startBitRead s = .next { s with line := s.line.readBit false } := by
  simp only [exec, execStartBitRead, State.dominantRead]
  cases hp : s.line.phase with
  | idle => exact absurd hp h
  | seekingIdle | inFrame | silent => rfl

/-- Settles O32: what one bit does in each phase. -/
theorem idleAndStartBitsMoveTheLinePhase : Obligations.IdleAndStartBitsMoveTheLinePhase := by
  intro s run
  refine ⟨fun h => ?_, fun h hd hb => ?_, fun h hd hb => ?_, fun h => ?_, fun h => ?_⟩
  · rw [exec_lineIdle, exec_startBitRead (by simp [h]), readBit_seekingIdle h, readBit_seekingIdle h]
    exact ⟨rfl, rfl⟩
  · rw [exec_lineIdle, exec_startBitRead (by simp [h]), readBit_endField h hd hb, readBit_endField h hd hb]
    exact ⟨rfl, rfl⟩
  · rw [exec_lineIdle, exec_startBitRead (by simp [h]), readBit_endField_last h hd hb, readBit_endField_last h hd hb]
    exact ⟨rfl, rfl⟩
  · simp only [exec, execStartBitRead, State.dominantRead, h]
    rfl
  · rw [exec_lineIdle, exec_startBitRead (by simp [h])]
    simp [LineController.readBit, h]

/-! ## CONFIGURE and JOIN (R98, R70, R99, R100, R147) -/

theorem extractLsb'_eq_ofNat (b : Byte) (start len : Nat) : b.extractLsb' start len = BitVec.ofNat len (b.toNat / 2 ^ start) := by
  apply BitVec.eq_of_toNat_eq
  simp [BitVec.extractLsb'_toNat, Nat.shiftRight_eq_div_pow]

/-- The configuration record, its fields read off the record's bytes as numbers (R98, R99, R188). -/
def recordOf (r : CommandRecord) : ConfigRecord :=
  { station := ⟨r.p1.toNat / 16 % 16, Nat.mod_lt _ (by decide)⟩, misses := BitVec.ofNat 3 r.p1.toNat, rate := BitVec.ofNat 2 (r.p2.toNat / 64),
    lastResource := BitVec.ofNat 6 r.p2.toNat, beaconPeriod := r.p3, guard := r.p4, groupKey := r.p5,
    profile := crcBytes [BitVec.ofNat 8 (r.p2.toNat / 64), r.p3, BitVec.ofNat 8 (r.p1.toNat % 8), r.p4, BitVec.ofNat 8 (r.p2.toNat % 64 + 1), r.p5] }

theorem config_eq (r : CommandRecord) : r.config = recordOf r := by
  have hrate : (BitVec.ofNat 2 (r.p2.toNat / 64)).toNat = r.p2.toNat / 64 := by have := r.p2.isLt; simp; omega
  have hstation : r.station = ⟨r.p1.toNat / 16 % 16, Nat.mod_lt _ (by decide)⟩ := by
    apply Fin.ext
    simp [CommandRecord.station, Nat.shiftRight_eq_div_pow]
  simp only [CommandRecord.config, recordOf, profileDigest, extractLsb'_eq_ofNat, hstation]
  simp [hrate]

theorem flying_isSome (q : TransmitQueue) : q.flying?.isSome = q.entries.any (fun e => e.inFlight) := by
  simp [TransmitQueue.flying?, List.isSome_find?]

theorem configureLine_eq (s : State) :
    s.configureLine = { s with
      line := if s.tx.entries.any (fun e => e.inFlight) then { s.line with rateChange := true } else s.line.takeRate (s.config.map (·.rate)) } := by
  unfold State.configureLine
  rw [flying_isSome]
  split <;> rfl

/-- Eight beacon periods in fine ticks (R61, R70). -/
theorem ltu_eight (n : Nat) : ltu (8 * n) = BitVec.ofNat 32 (512 * n) := by
  rw [ltu, ← Nat.mul_assoc]

theorem configure_eq (s : State) (r : CommandRecord) :
    s.configure r = { s with
      config := some r.config
      member := { s.member with state := .offline }
      timebase := { s.timebase with sum := 0, count := 0, roundDeadline := some (s.timebase.counter + BitVec.ofNat 32 (512 * r.p3.toNat)) }
      line := if s.tx.entries.any (fun e => e.inFlight) then { s.line with rateChange := true } else s.line.takeRate (some r.config.rate)
      host := s.host.raise r.configured } := by
  rw [← ltu_eight]
  simp only [State.configure, configureLine_eq]
  rfl

/-- An event placed in a taking is an answer. -/
theorem answer_of_taken (s : State) (rest : List CommandRecord) (e : EventRecord) :
    { HostPort.raise { s.host with commands := rest, later := [] } e with later := s.host.later }
      = HostPort.answer { s.host with commands := rest } e :=
  LocalClaims.raiseAll_at_once [e] { s.host with commands := rest }

/-- Settles O18: both records are acted on; the fields of CONFIGURE are numbers of its bytes. -/
theorem configureAndJoinPrepareTheStation : Obligations.ConfigureAndJoinPrepareTheStation := by
  refine ⟨fun s r rest hc hk hst hr => ?_, fun s r rest hc hk hst hr => ?_⟩
  · intro c taken configured
    have htaken : CommandKind.configure.takenIn s.member.state = true := by obtain h | h := hst <;> simp [CommandKind.takenIn, h]
    have hcfg : r.config = c := config_eq r
    refine (LocalClaims.exec_taking_ok hc hk htaken hr rfl).trans (congrArg Host.Outcome.next ?_)
    have hanswer : r.configured = configured := by
      have hstation : r.station = c.station := congrArg ConfigRecord.station hcfg
      simp only [CommandRecord.configured, hcfg, hstation]
      rfl
    have hhost : { HostPort.raise { s.host with commands := rest, later := [] } r.configured with later := s.host.later }
        = taken.answer configured := by
      rw [answer_of_taken, hanswer]
    rw [configure_eq, hcfg, ← hhost]
    rfl
  · intro c
    have htaken : CommandKind.join.takenIn s.member.state = true := by simp [CommandKind.takenIn, hst]
    exact LocalClaims.exec_taking_ok hc hk htaken hr rfl

/-! ## The end of a discipline round (R70 to R73) -/

theorem lockChanged_eq_false_iff (before after : TimebaseState) : lockChanged before after = false ↔ (before = .locked ↔ after = .locked) := by
  cases before <;> cases after <;> simp [lockChanged]

/-- A round end changes the Timebase, and places TIMEBASE where the state enters or leaves LOCKED. -/
theorem endRound_eq (s : State) (d : Tick) :
    s.endRound d = { s with
      timebase := s.endingRound.endRound d s.roundSpan
      host := if s.endingRound.state = .locked ↔ s.endingRound.nextState = .locked then s.host
        else s.host.answer (s.timebaseEvent s.endingRound.nextState s.endingRound.corrected s.endingRound.count) } := by
  have hstate : (s.endingRound.endRound d s.roundSpan).state = s.endingRound.nextState := rfl
  have hiff := lockChanged_eq_false_iff s.endingRound.state s.endingRound.nextState
  simp only [State.endRound, hstate]
  cases hc : lockChanged s.endingRound.state s.endingRound.nextState with
  | true => simp only [if_true, if_neg (mt hiff.mpr (by simp [hc]))]; rfl
  | false => simp only [Bool.false_eq_true, if_false, if_pos (hiff.mp hc)]

/-- The round is quiet: it had samples, and its mean is at most 2 steps (R72). -/
theorem quietRound_eq (t : Timebase) : t.quietRound = decide (t.count ≠ 0 ∧ -2 ≤ t.mean ∧ t.mean ≤ 2) := by
  rw [Timebase.quietRound, Bool.eq_iff_iff]
  simp only [Bool.and_eq_true, bne_iff_ne, decide_eq_true_eq]
  omega

/-- R72's table with the quiet round and the mean as numbers. -/
theorem nextState_eq (t : Timebase) :
    t.nextState =
      if t.count = 0 then .free
      else if (t.count ≠ 0 ∧ -2 ≤ t.mean ∧ t.mean ≤ 2) ∧ t.quiet = true then .locked
      else if t.mean < -8 ∨ 8 < t.mean then .tracking
      else if t.state = .free then .tracking else t.state := by
  have hquiet : t.mean.natAbs ≤ 2 ↔ -2 ≤ t.mean ∧ t.mean ≤ 2 := by omega
  have hlarge : 8 < t.mean.natAbs ↔ t.mean < -8 ∨ 8 < t.mean := by omega
  simp only [Timebase.nextState, Bool.and_eq_true, decide_eq_true_eq, hquiet, hlarge]
  split
  · rfl
  · rename_i h0
    simp only [ne_eq, h0, not_false_eq_true, true_and]
    cases t.state <;> rfl

/-- Settles O59: with samples the round ends on the Timebase as it is, by R71 and R72; without, whatever the reason, in FREE. -/
theorem roundEndCorrectsTheTrim : Obligations.RoundEndCorrectsTheTrim := by
  intro s d hd hreached t n mean trim quiet st told
  have hexec : exec .roundEnd s = .next (s.endRound d) := by
    simp [exec, execRoundEnd, hd, (reached_iff s.now d).mpr hreached]
  have hspan : s.roundSpan = BitVec.ofNat 32 (512 * s.cfg.beaconPeriod.toNat) := ltu_eight _
  obtain ⟨hcount, hmean, hstate, hquiet0, htrim0⟩ : s.endingRound.count = n ∧ s.endingRound.mean = mean ∧ s.endingRound.state = t.state
      ∧ s.endingRound.quiet = t.quiet ∧ s.endingRound.trim = t.trim := by
    obtain ⟨h, he⟩ | ⟨h, he⟩ := s.endingRound_spec <;> simp [he, Timebase.mean, mean, n, h, t]
  have hquiet : s.endingRound.quietRound = decide quiet := by
    rw [quietRound_eq, hcount, hmean]
  have hst : s.endingRound.nextState = st := by
    rw [nextState_eq, hcount, hmean, hstate, hquiet0]
  have htrim : s.endingRound.corrected = trim := by
    rw [Timebase.corrected, hcount, hmean, htrim0]; rfl
  have htb : s.endingRound.endRound d s.roundSpan = { t with
      trim := trim, sum := 0, count := 0, quiet := decide quiet, state := st
      roundDeadline := some (d + BitVec.ofNat 32 (512 * s.cfg.beaconPeriod.toNat)) } := by
    rw [← hst, ← htrim, ← hquiet, ← hspan]
    obtain ⟨h, he⟩ | ⟨h, he⟩ := s.endingRound_spec <;> rw [he] <;> rfl
  rw [hexec, endRound_eq, htb, hcount, hstate, hst, htrim]
  rfl

/-! ## Roster entries: reading after writing (R79) -/

@[simp] theorem peer_setPeer (s : State) (p : Station) (e : RosterEntry) : (s.setPeer p e).peer p = e := by
  simp [State.peer]

@[simp] theorem setPeer_setPeer (s : State) (p : Station) (e e' : RosterEntry) : (s.setPeer p e).setPeer p e' = s.setPeer p e' := by
  simp [State.setPeer]

@[simp] theorem setPeer_peer (s : State) (p : Station) : s.setPeer p (s.peer p) = s := by
  simp [State.setPeer, State.peer]

/-! ## The sample of a BEACON (R67 to R69) -/

/-- R68, with the two values as numbers. -/
@[reducible] def IsOutlier (l sd : Tick) : Prop := sd.toNat = 0 ∨ 2 ^ 31 ≤ sd.toNat ∨ sd.toNat < 250 * ((l.toNat : Int) - sd.toNat).natAbs

theorem outlier_iff (l sd : Tick) : outlier l sd = true ↔ IsOutlier l sd := by
  have hzero : sd = 0#32 ↔ sd.toNat = 0 := by rw [← BitVec.toNat_inj]; rfl
  simp [outlier, IsOutlier, hzero, BitVec.msb_eq_decide, or_assoc]

/-- The Timebase after a BEACON that gave this sample, or none. -/
def sampledTimebase (t : Timebase) : Option (Tick × Tick) → Timebase
  | some (l, sd) => if outlier l sd then t else t.sample (sampleError l sd)
  | none => t

/-- The sender's outlier count after it. -/
def sampledOutliers (n : Nat) : Option (Tick × Tick) → Nat
  | some (l, sd) => if outlier l sd then min (n + 1) 255 else n
  | none => n

theorem sampledTimebase_some (t : Timebase) (l sd : Tick) :
    sampledTimebase t (some (l, sd)) =
      if IsOutlier l sd ∨ 255 ≤ t.count then t
      else { t with sum := t.sum + (((l.toNat : Int) - sd.toNat) * 65536 * 256).tdiv sd.toNat, count := t.count + 1 } := by
  simp only [sampledTimebase, outlier_iff, Timebase.sample, sampleError]
  by_cases ho : IsOutlier l sd
  · rw [if_pos ho, if_pos (.inl ho)]
  · by_cases hc : t.count < Config.byteCountMax
    · have hroom : ¬ (IsOutlier l sd ∨ 255 ≤ t.count) := not_or.mpr ⟨ho, Nat.not_le.mpr hc⟩
      rw [if_neg ho, if_pos hc, if_neg hroom]
    · have hfull : IsOutlier l sd ∨ 255 ≤ t.count := .inr (Nat.not_lt.mp hc)
      rw [if_neg ho, if_neg hc, if_pos hfull]

theorem sampledOutliers_some (n : Nat) (l sd : Tick) :
    sampledOutliers n (some (l, sd)) = if IsOutlier l sd then min (n + 1) 255 else n := by
  simp only [sampledOutliers, outlier_iff]

/-- The sample that a BEACON at this station gives, if it gives one. -/
def sampleFrom (s : State) (d : Delivered) (b : BeaconBody) : Option (Tick × Tick) := sampleOf (s.peer d.sender).beacon b d.stamp

/-- The station once the sample has gone to the Timebase. -/
def sampledState (s : State) (d : Delivered) (b : BeaconBody) : State :=
  { s with timebase := sampledTimebase s.timebase (sampleFrom s d b) }

/-! ## The sender's entry, part by part (R66, R68, R85, R86, R94) -/

/-- The entry once the sample has been counted. -/
def sampledEntry (s : State) (d : Delivered) (b : BeaconBody) : RosterEntry :=
  { s.peer d.sender with outliers := sampledOutliers (s.peer d.sender).outliers (sampleFrom s d b) }

/-- The entry once record and reported states are replaced. -/
def recordedEntry (s : State) (d : Delivered) (b : BeaconBody) : RosterEntry :=
  { sampledEntry s d b with
    beacon := some { number := b.number, carried := b.stamp, received := d.stamp }
    reportedState := StationState.ofBeacon b.stationState
    reportedTimebase := TimebaseState.ofCode b.timebaseState }

/-- The entry once its presence is renewed. -/
def heardEntry (s : State) (d : Delivered) (b : BeaconBody) : RosterEntry :=
  { recordedEntry s d b with lastHeard := some d.stamp, presence := some (d.stamp + s.presenceSpan) }

/-- The sender reports FOUNDING or ONLINE, so its digest is compared (R94). -/
@[reducible] def Compares (b : BeaconBody) : Prop := b.stationState = 3 ∨ b.stationState = 6

/-- An entry once the digests are compared. -/
def compared (s : State) (b : BeaconBody) (e : RosterEntry) : RosterEntry :=
  { e with divergence := if Compares b then decide (b.digest ≠ s.digest) else e.divergence }

/-- The DIVERGENCE event (R95). -/
def divergenceEvent (d : Delivered) (b : BeaconBody) : EventRecord :=
  { kind := .divergence, tag := 0, subject := stationByte d.sender, grant := b.digest, detail := 0, count := b.number }

/-- The Host Port once the digests are compared: DIVERGENCE where they differ and the flag was clear. -/
def comparedHost (s : State) (d : Delivered) (b : BeaconBody) : HostPort :=
  if Compares b ∧ b.digest ≠ s.digest ∧ (s.peer d.sender).divergence = false then s.host.answer (divergenceEvent d b) else s.host

theorem sampleBeacon_eq {s : State} {d : Delivered} (b : BeaconBody) (hst : s.member.state = .online)
    (he : (s.peer d.sender).state = .online) : s.sampleBeacon d b = (sampledState s d b).setPeer d.sender (sampledEntry s d b) := by
  have hguard : (decide (s.member.state = .online) && decide ((s.peer d.sender).state = .online)) = true := by simp [hst, he]
  simp only [State.sampleBeacon, hguard, if_true, sampledState, sampledEntry, sampleFrom]
  cases sampleOf (s.peer d.sender).beacon b d.stamp with
  | none => exact (setPeer_peer s d.sender).symm
  | some x =>
    obtain ⟨l, sd⟩ := x
    cases ho : outlier l sd with
    | true => simp only [sampledTimebase, sampledOutliers, ho, if_true]; rfl
    | false =>
      simp only [sampledTimebase, sampledOutliers, ho, Bool.false_eq_true, if_false]
      exact (setPeer_peer { s with timebase := s.timebase.sample (sampleError l sd) } d.sender).symm

theorem recordBeacon_eq (s : State) (d : Delivered) (b : BeaconBody) :
    ((sampledState s d b).setPeer d.sender (sampledEntry s d b)).recordBeacon d b
      = (sampledState s d b).setPeer d.sender (recordedEntry s d b) := by
  simp only [State.recordBeacon, peer_setPeer, setPeer_setPeer, recordedEntry]

theorem renewPresence_online {s : State} {p : Station} (stamp : Tick) (hme : p ≠ s.me) (hp : (s.peer p).present = true)
    (hst : s.member.state = .online) (hq : (s.peer p).departQueued = false) :
    s.renewPresence p stamp = s.setPeer p { s.peer p with lastHeard := some stamp, presence := some (stamp + s.presenceSpan) } := by
  simp [State.renewPresence, State.withdrawDepart, hme, hp, hst, hq]

/-- The flag follows the comparison, and a difference with the flag clear raises DIVERGENCE. -/
theorem compareDigest_eq {s : State} {d : Delivered} (b : BeaconBody) (hl : s.replica.live = true) (he : (s.peer d.sender).state = .online) :
    s.compareDigest d b false = { s with host := comparedHost s d b }.setPeer d.sender (compared s b (s.peer d.sender)) := by
  have hguard : (s.replica.live && (s.peer d.sender).state == .online && (b.stationState == 3 || b.stationState == 6)) = true ↔ Compares b := by
    simp [hl, he, Compares]
  simp only [State.compareDigest, hguard, Bool.or_false, comparedHost, compared]
  by_cases hc : Compares b
  · by_cases hd : b.digest = s.digest
    · simp only [hc, hd, if_true, ne_eq, not_true_eq_false, false_and, and_false, if_false, decide_false]
    · simp only [hc, hd, if_true, if_false, ne_eq, not_false_eq_true, true_and, decide_true]
      cases (s.peer d.sender).divergence <;> rfl
  · simp only [hc, if_false, false_and]
    exact (setPeer_peer s d.sender).symm

/-! ## A BEACON of an ONLINE peer at the live roster (R85) -/

/-- The four parts of the reading replace the sender's entry one after another. -/
theorem liveBeacon_eq {s : State} {d : Delivered} (b : BeaconBody) (hme : d.sender ≠ s.me) (hst : s.member.state = .online)
    (hl : s.replica.live = true) (he : (s.peer d.sender).state = .online) (hq : (s.peer d.sender).departQueued = false) :
    s.liveBeacon d b false
      = { sampledState s d b with host := comparedHost s d b }.setPeer d.sender (compared s b (heardEntry s d b)) := by
  have hpresent : (s.peer d.sender).present = true := by simp [RosterEntry.present, he]
  have hheard : ((sampledState s d b).setPeer d.sender (recordedEntry s d b)).renewPresence d.sender d.stamp
      = (sampledState s d b).setPeer d.sender (heardEntry s d b) := by
    rw [renewPresence_online (s := (sampledState s d b).setPeer d.sender (recordedEntry s d b)) d.stamp hme (by rwa [peer_setPeer]) hst
      (by rwa [peer_setPeer]), peer_setPeer, setPeer_setPeer]
    rfl
  have hhost : comparedHost ((sampledState s d b).setPeer d.sender (heardEntry s d b)) d b = comparedHost s d b := by
    rw [comparedHost, peer_setPeer]; rfl
  rw [State.liveBeacon, if_neg hme, if_pos hpresent, sampleBeacon_eq b hst he, recordBeacon_eq, hheard,
    compareDigest_eq (s := (sampledState s d b).setPeer d.sender (heardEntry s d b)) b hl (by rwa [peer_setPeer]), hhost, peer_setPeer]
  exact setPeer_setPeer { sampledState s d b with host := comparedHost s d b } d.sender (heardEntry s d b) _

/-! ## A BEACON handed inward (R85, R159) -/

/-- A peer's BEACON at an ONLINE station goes to the live roster. -/
theorem exec_beaconFrame {s : State} {p : Station} {b : BeaconBody} {stamp : Tick} {rest : List Delivered}
    (hd : s.line.delivery = { sender := p, frame := .beacon b, stamp := stamp, own := false } :: rest) (hst : s.member.state = .online) :
    exec .beaconFrame s = .next ({ s with line := { s.line with delivery := rest } }.applyLive
      { sender := p, frame := .beacon b, stamp := stamp, own := false } false) := by
  have hdrop : s.dropDelivery = { s with line := { s.line with delivery := rest } } := by simp [State.dropDelivery, hd]
  have hexec : exec .beaconFrame s = .next (s.dropDelivery.receive { sender := p, frame := .beacon b, stamp := stamp, own := false }) := by
    simp [exec, execBeaconFrame, State.deliver, hd, Frame.kind]
  rw [hexec, hdrop]
  simp [State.receive, State.endsNote, State.beaconDelivered, State.ownDelivered, OwnKind.ofId, Frame.id, State.evictedBy, State.routeFrame, hst]

/-- With nothing MARKED the end of an application advances the sequence number alone (R7, R24). -/
theorem finishApplication_eq {s : State} (hm : s.replica.marked = []) (hl : s.replica.live = true) :
    s.finishApplication false = { s with replica := { s.replica with seq := s.replica.seq + 1 } } := by
  have hservice : s.serviceRevocations = s := by
    unfold State.serviceRevocations
    split
    · rw [hm]; rfl
    · rfl
  simp [State.finishApplication, hservice, hl]

/-- Settles O53: the sample, the record, the renewal and the comparison each replace the sender's entry. -/
theorem beaconSamplesRecordsAndCompares : Obligations.BeaconSamplesRecordsAndCompares := by
  rintro s rest p b stamp ⟨hdeliv, -, hst, hlive, hmarked⟩ hme e he hq sample isOutlier compares differs told
  rw [exec_beaconFrame hdeliv hst]
  have hsample : sampleOf e.beacon b stamp = sample := by
    simp only [sampleOf, sample]
    cases e.beacon <;> rfl
  clear_value sample
  let d : Delivered := { sender := p, frame := .beacon b, stamp := stamp, own := false }
  let u : State := { s with line := { s.line with delivery := rest } }
  have happly : u.applyLive d false = (u.liveBeacon d b false).finishApplication false := rfl
  have hbeacon := liveBeacon_eq (s := u) (d := d) b hme hst hlive he hq
  have hfinish := finishApplication_eq (s := u.liveBeacon d b false) (by rw [hbeacon]; exact hmarked) (by rw [hbeacon]; exact hlive)
  refine congrArg Host.Outcome.next ?_
  rw [happly, hfinish, hbeacon]
  have hsampleFrom : sampleFrom u d b = sample := hsample
  simp only [sampledState, compared, heardEntry, recordedEntry, sampledEntry, hsampleFrom]
  rcases sample with _ | ⟨l, sd⟩
  · rfl
  · rw [sampledTimebase_some, sampledOutliers_some]
    rfl

end Sys2Proof.LeaseTime
end

section
/-! PROOF. Roster and presence (spec/04, spec/05, with the vetoes of spec/06 and spec/07): the beacon schedule, the timers, eviction, admissions at
the live roster and at the joiner, and what a veto does to its sender and to the station. -/

namespace Sys2Proof.RosterPresence

open Sys2Proof.Machine

/-! ## One entry of the Transmit Queue (R129, R131, R135, R137) -/

section
variable {before after : List TxEntry} {e : TxEntry} {q : TransmitQueue}

/-- The entry of an identity is the one of its identity that is no orphan. -/
theorem find?_eq_some {id : FrameId} (hq : q.entries = before ++ e :: after) (ho : e.orphan = false) (hid : e.frame.id = id)
    (hothers : ∀ x ∈ before ++ after, x.orphan = false → x.frame.id ≠ id) : q.find? id = some e := by
  have hbefore : before.find? (fun x => !x.orphan && x.frame.id == id) = none := by
    refine List.find?_eq_none.mpr fun x hx => ?_
    simpa using hothers x (List.mem_append_left _ hx)
  simp [TransmitQueue.find?, hq, List.find?_append, hbefore, ho, hid]

theorem find?_eq_none {id : FrameId} (h : ∀ x ∈ q.entries, x.orphan = false → x.frame.id ≠ id) : q.find? id = none :=
  List.find?_eq_none.mpr fun x hx => by simpa using h x hx

/-- The frame in flight is the one entry that flies. -/
theorem flying?_eq_some (hq : q.entries = before ++ e :: after) (he : e.inFlight = true) (hothers : ∀ x ∈ before ++ after, x.inFlight = false) :
    q.flying? = some e := by
  have hbefore : before.find? (fun x => x.inFlight) = none :=
    List.find?_eq_none.mpr fun x hx => by simp [hothers x (List.mem_append_left _ hx)]
  simp [TransmitQueue.flying?, hq, List.find?_append, hbefore, he]

/-- A change made to the entries that pass a test reaches the one entry that does. -/
theorem map_ite_eq (p : TxEntry → Bool) (f : TxEntry → TxEntry) (hp : p e = true) (hothers : ∀ x ∈ before ++ after, p x = false) :
    (before ++ e :: after).map (fun x => if p x then f x else x) = before ++ f e :: after := by
  have hsame (l : List TxEntry) (hl : ∀ x ∈ l, p x = false) : l.map (fun x => if p x then f x else x) = l :=
    (List.map_congr_left (g := id) fun x hx => by simp [hl x hx]).trans (List.map_id l)
  simp [hp, hsame before (fun x hx => hothers x (List.mem_append_left _ hx)), hsame after (fun x hx => hothers x (List.mem_append_right _ hx))]

/-- A refresh renumbers the one BEACON that waits, in its place (R137). -/
theorem refresh_waiting {b : BeaconBody} (hq : q.entries = before ++ e :: after) (hb : e.frame = .beacon b) (ho : e.orphan = false)
    (hothers : ∀ x ∈ before ++ after, x.orphan = false → x.frame.id ≠ .beacon) (hfly : e.inFlight = false) (number : Byte) (digest : Word16) :
    q.refresh number digest = (.refreshed, { q with
      entries := before ++ { e with frame := .beacon { b with number := number, digest := digest } } :: after }) := by
  have hid : e.frame.id = .beacon := by rw [hb]; rfl
  have hmap := map_ite_eq (before := before) (after := after) (e := e) (fun x => !x.orphan && x.frame.id == .beacon)
    (fun x => { x with frame := x.frame.renumber number digest }) (by simp [ho, hid]) (fun x hx => by simpa using hothers x hx)
  simp only [TransmitQueue.refresh, find?_eq_some hq ho hid hothers, hfly, hq, hmap, Bool.false_eq_true, if_false]
  rw [hb]; rfl

/-- A refresh of the one BEACON in flight sets its return notice, unless it is marked withdrawn (R137). -/
theorem refresh_flying {b : BeaconBody} (hq : q.entries = before ++ e :: after) (hb : e.frame = .beacon b) (ho : e.orphan = false)
    (hothers : ∀ x ∈ before ++ after, x.orphan = false → x.frame.id ≠ .beacon) (hfly : e.inFlight = true) (number : Byte) (digest : Word16) :
    q.refresh number digest = (.onLine, { q with entries := before ++ { e with returnNotice := !e.withdrawn } :: after }) := by
  have hid : e.frame.id = .beacon := by rw [hb]; rfl
  have hmap := map_ite_eq (before := before) (after := after) (e := e) (fun x => !x.orphan && x.frame.id == .beacon)
    (fun x => { x with returnNotice := !x.withdrawn }) (by simp [ho, hid]) (fun x hx => by simpa using hothers x hx)
  simp only [TransmitQueue.refresh, find?_eq_some hq ho hid hothers, hfly, hq, hmap, if_true]

end

/-! ## The beacon schedule (R82, R83) -/

/-- A reached firing advances the schedule, then acts on the Transmit Queue. -/
theorem exec_beaconSchedule {s : State} {d : Tick} (hd : s.member.beaconDeadline = some d) (hr : 0 ≤ (s.now - d).toInt) :
    exec .beaconSchedule s = .next (s.advanceBeacon d).fireBeacon := by
  simp [exec, execBeaconSchedule, hd, (reached_iff s.now d).mpr hr]

/-- One beacon period (R61, R82). -/
theorem beaconPeriods_one (s : State) : s.beaconPeriods 1 = BitVec.ofNat 32 (64 * s.cfg.beaconPeriod.toNat) := by
  rw [State.beaconPeriods, Nat.one_mul]; rfl

/-- The advanced schedule acts on the Transmit Queue by the answer to its refresh (R83). -/
theorem fireBeacon_refreshed {s : State} {q : TransmitQueue} (h : s.tx.refresh s.member.beaconCounter s.digest = (.refreshed, q)) :
    s.fireBeacon = { s with tx := q } := by
  simp only [State.fireBeacon, h]

theorem fireBeacon_onLine {s : State} {q : TransmitQueue} (h : s.tx.refresh s.member.beaconCounter s.digest = (.onLine, q)) :
    s.fireBeacon = { s with tx := q, member := { s.member with beaconPending := true } } := by
  simp only [State.fireBeacon, h]

theorem fireBeacon_notFound {s : State} (h : s.tx.find? .beacon = none) : s.fireBeacon = s.queueBeacon := by
  simp only [State.fireBeacon, TransmitQueue.refresh, h]

/-- Settles O57: the three answers to the refresh. -/
theorem beaconScheduleQueuesOrRefreshes : Obligations.BeaconScheduleQueuesOrRefreshes := by
  intro s d hd hr number fired fresh
  have hfired : (s.advanceBeacon d).member = fired := by rw [State.advanceBeacon_member, beaconPeriods_one]
  have hfire (t : State) (ht : t = (s.advanceBeacon d).fireBeacon) : exec .beaconSchedule s = .next t := ht ▸ exec_beaconSchedule hd hr
  refine ⟨fun hnone => ?_, fun before after x b hq hb ho hothers => ⟨fun hfly => ?_, fun hfly => ?_⟩⟩
  · refine hfire _ ?_
    rw [fireBeacon_notFound (s := s.advanceBeacon d) (find?_eq_none hnone), ← hfired]
    rfl
  · refine hfire _ ?_
    rw [fireBeacon_refreshed (s := s.advanceBeacon d) (refresh_waiting hq hb ho hothers hfly _ _), ← hfired]
    rfl
  · refine hfire _ ?_
    rw [fireBeacon_onLine (s := s.advanceBeacon d) (refresh_flying hq hb ho hothers hfly _ _), ← hfired]
    rfl

/-! ## The timers of listening, joining and founding (R102, R105, R120, R123) -/

/-- With no own membership frame out the frame is queued at once (R97). -/
theorem queueOwn_of_none {s : State} (k : OwnKind) (h : s.member.own = none) :
    s.queueOwn k = { s with
      tx := (s.tx.insert (s.ownFrame k)).2
      member := { s.member with own := some { kind := k, withdrawn := false, next := none } } } := by
  simp only [State.queueOwn, h]
  rfl

theorem present_iff (e : RosterEntry) : e.present = true ↔ e.state ≠ .absent := by simp [RosterEntry.present]

/-- With nothing MARKED no REVOKE is queued (R24). -/
theorem serviceRevocations_eq {s : State} (hm : s.replica.marked = []) : s.serviceRevocations = s := by
  unfold State.serviceRevocations
  split
  · rw [hm]; rfl
  · rfl

/-- The presence deadlines start for the peers present, unless a DEPART is out for them (R87). -/
theorem startPresence_roster (s : State) (x : Station) :
    s.startPresence.member.roster[x] =
      if x ≠ s.me ∧ (s.member.roster[x]).state ≠ .absent ∧ (s.member.roster[x]).departQueued = false then
        { s.member.roster[x] with presence := some (s.now + s.presenceSpan) }
      else s.member.roster[x] := by
  simp [State.startPresence, RosterEntry.present, and_assoc]

theorem startPresence_roster_state (s : State) (x : Station) :
    (s.startPresence.member.roster[x]).state = (s.member.roster[x]).state := by
  rw [startPresence_roster]
  split <;> rfl

/-- The ONLINE peer count, read off the roster (R80). -/
theorem onlinePeers_eq (s : State) :
    s.onlinePeers = ((List.finRange 16).filter (fun x => x ≠ s.me ∧ (s.member.roster[x]).state = .online)).length := by
  simp only [State.onlinePeers, State.peer]
  congr 2
  funext x
  simp [Bool.decide_and, bne, beq_eq_decide]

/-- JOINED as it is placed by a station that was in this state (R105, R119). -/
def joinedEvent (s : State) : EventRecord :=
  { kind := .joined, tag := s.member.joinTag.getD 0, subject := stationByte s.me, grant := s.member.incarnation.getD 0, detail := 0,
    count := BitVec.ofNat 8 s.onlinePeers }

/-- With nothing MARKED, entering ONLINE starts the presence deadlines and places JOINED (R87, R105, R119). -/
theorem enterOnline_eq {s : State} (hm : s.replica.marked = []) :
    s.enterOnline = { s with
      host := s.host.raise (joinedEvent s)
      member := { s.member with
        state := .online, foundingPeriod := none, joinTag := none, failures := 0
        roster := Vector.ofFn (fun x : Station =>
          if x ≠ s.me ∧ (s.member.roster[x]).state ≠ .absent ∧ (s.member.roster[x]).departQueued = false then
            { s.member.roster[x] with presence := some (s.now + s.presenceSpan) }
          else s.member.roster[x]) } } := by
  let t : State := { s with member := { s.member with state := .online, foundingPeriod := none } }
  have hservice : t.startPresence.serviceRevocations = t.startPresence := serviceRevocations_eq (by simpa using hm)
  have hcount : t.startPresence.onlinePeers = s.onlinePeers := by
    rw [onlinePeers_eq, onlinePeers_eq]
    simp only [startPresence_roster_state]
    rfl
  have hroster : t.startPresence.member.roster = Vector.ofFn (fun x : Station =>
      if x ≠ s.me ∧ (s.member.roster[x]).state ≠ .absent ∧ (s.member.roster[x]).departQueued = false then
        { s.member.roster[x] with presence := some (s.now + s.presenceSpan) }
      else s.member.roster[x]) := by
    refine Vector.ext fun i hi => ?_
    rw [Vector.getElem_ofFn]
    exact startPresence_roster t ⟨i, hi⟩
  rw [← hroster]
  simp only [State.enterOnline, hservice, t]
  rw [State.stationEvent, hcount]
  rfl

/-- Settles O58: each timer is reached, and no own frame is out. -/
theorem joinTimersQueueFramesOrEndFounding : Obligations.JoinTimersQueueFramesOrEndFounding := by
  refine ⟨fun s d hr hown => ?_, fun s d hst hab hd hr hm => ?_⟩
  · intro queued n drawn
    have hreached : reached s.now d = true := (reached_iff s.now d).mpr hr
    refine ⟨fun hst hd => ?_, fun a hst hd ha hph => ?_, fun hst hd => ?_⟩
    · let t : State := { s with member := { s.member with listenWindow := none } }
      have hexec : exec .listenWindow s = .next (t.queueOwn .found) := by
        simp [exec, execListenWindow, hst, hd, hreached, t]
      rw [hexec, queueOwn_of_none (s := t) .found hown]
      rfl
    · have hruns : s.attemptRuns = true := by obtain h | h := hph <;> simp [State.attemptRuns, ha, h]
      have hexec : exec .joinAttemptTimer s = .next (s.failAttempt .timeout) := by
        simp [exec, execJoinAttemptTimer, hst, hd, hreached, hruns]
      rw [hexec, State.failAttempt, queueOwn_of_none .quit (by exact hown)]
      rfl
    · let t : State := { s with member := { s.member with backoff := none } }
      have hexec : exec .joinBackoff s = .next (t.drawIncarnation.queueOwn .apply) := by
        simp [exec, execJoinBackoff, hst, hd, hreached, t]
      rw [hexec, queueOwn_of_none (s := t.drawIncarnation) .apply hown]
      rfl
  · intro peers joined
    have hreached : reached s.now d = true := (reached_iff s.now d).mpr hr
    have hexec : exec .foundingPeriod s = .next s.enterOnline := by
      simp [exec, execFoundingPeriod, hst, hab, hd, hreached]
    have hjoined : joinedEvent s = joined := by rw [joinedEvent, onlinePeers_eq]
    rw [hexec, enterOnline_eq hm, hjoined]
    rfl

/-! ## Handing a frame inward (R158, R159) -/

/-- The command of the oldest frame's kind hands it inward. -/
theorem exec_oldest {s : State} {d : Delivered} {rest : List Delivered} (hd : s.line.delivery = d :: rest) :
    exec d.frame.kind.handing s = .next ({ s with line := { s.line with delivery := rest } }.receive d) := by
  rw [exec_handing]
  simp [State.deliver, hd, State.dropDelivery]

/-- A frame that this station did not send evicts it or goes to the station's state (R93, R159). -/
theorem receive_of_foreign (s : State) {d : Delivered} (ho : d.own = false) :
    s.receive d = if s.evictedBy d then s.evict else s.routeFrame d := by
  have hnote : s.endsNote d = false := by simp [State.endsNote, ho]
  have hbeacon : s.beaconDelivered d = s := by
    unfold State.beaconDelivered; split
    · simp [ho]
    · rfl
  have hown : s.ownDelivered d = s := by
    unfold State.ownDelivered; split
    · simp [ho]
    · rfl
  simp only [State.receive, ho, Bool.false_eq_true, if_false, hnote, hbeacon, hown]

/-- Only a DEPART naming this station evicts it (R93). -/
theorem evictedBy_of_ne {s : State} {d : Delivered} (h : d.frame ≠ .depart s.me) : s.evictedBy d = false := by
  unfold State.evictedBy
  split
  · rename_i p hp
    have hne : p ≠ s.me := fun he => h (by rw [hp, he])
    simp [hne]
  · rfl

/-- A frame that this station did not send and that does not name it in a DEPART goes to the station's state. -/
theorem exec_foreign {s : State} {d : Delivered} {rest : List Delivered} (hd : s.line.delivery = d :: rest) (ho : d.own = false)
    (hdep : d.frame ≠ .depart s.me) :
    exec d.frame.kind.handing s = .next ({ s with line := { s.line with delivery := rest } }.routeFrame d) := by
  rw [exec_oldest hd, receive_of_foreign _ ho, evictedBy_of_ne (s := { s with line := { s.line with delivery := rest } }) hdep]
  rfl

theorem routeFrame_of_member {s : State} (d : Delivered) (h : s.member.state = .founding ∨ s.member.state = .online) :
    s.routeFrame d = s.applyLive d false := by
  obtain h | h := h <;> simp only [State.routeFrame, h]

/-- A frame handed to a founder or an ONLINE station is applied (R7, R159). -/
theorem exec_handedToMember {s : State} {d : Delivered} {rest : List Delivered} (h : s.HandedToMember d rest) (hdep : d.frame ≠ .depart s.me) :
    exec d.frame.kind.handing s = .next ({ s with line := { s.line with delivery := rest } }.applyLive d false) := by
  obtain ⟨hd, ho, hst, -, -⟩ := h
  rw [exec_foreign hd ho hdep, routeFrame_of_member (s := { s with line := { s.line with delivery := rest } }) d hst]

theorem HandedByPeer.handedToMember {s : State} {d : Delivered} {rest : List Delivered} (h : s.HandedByPeer d rest) : s.HandedToMember d rest := by
  obtain ⟨hd, ho, hst, hlive, hm⟩ := h
  exact ⟨hd, ho, .inr hst, hlive, hm⟩

/-- An application whose effects are known and leave the replica live with nothing MARKED ends with the sequence number advanced (R7, R28). -/
theorem applyLive_of_effects {s t : State} {d : Delivered} (hlive : s.replica.live = true) (hm : s.replica.marked = [])
    (heff : s.liveEffects d false = t) (hrep : t.replica = s.replica) :
    s.applyLive d false = { t with replica := { s.replica with seq := s.replica.seq + 1 } } := by
  rw [State.applyLive, heff, LeaseTime.finishApplication_eq (by rwa [hrep]) (by rwa [hrep]), hrep]

/-! ## Eviction and the own QUIT of a leave (R93, R125) -/

theorem evictable_iff (s : State) :
    s.evictable = true ↔ s.member.state = .founding ∨ s.member.state = .catchup ∨ s.member.state = .online
      ∨ (s.member.state = .joining ∧ s.member.attempt.isSome = true)
      ∨ ((s.member.state = .mute ∨ s.member.state = .leaving) ∧ s.member.departEvicts = true) := by
  cases h : s.member.state <;> simp [State.evictable, h]

/-- A DEPART naming this station where it does not evict, with no live replica: nothing is read (R93). -/
theorem routeFrame_depart {s : State} {d : Delivered} {p : Station} (hf : d.frame = .depart p) (ho : d.own = false)
    (h : s.member.state = .unconfigured ∨ s.member.state = .offline ∨ s.member.state = .listen
      ∨ (s.member.state = .joining ∧ s.member.attempt = none)
      ∨ ((s.member.state = .mute ∨ s.member.state = .leaving) ∧ s.replica.live = false)) : s.routeFrame d = s := by
  obtain h | h | h | ⟨h, ha⟩ | ⟨h | h, hl⟩ := h
  · simp only [State.routeFrame, h]
  · simp only [State.routeFrame, h]
  · simp only [State.routeFrame, h, State.listenFrame, hf]
  · simp only [State.routeFrame, h, State.joinerFrame, ha, hf]
  · simp only [State.routeFrame, h, hl, Bool.false_eq_true, if_false]
  · simp only [State.routeFrame, h, hl, Bool.false_eq_true, if_false, State.leavingFrame, ho, Bool.not_false, if_true]

/-- A station clear at the Timebase, with TIMEBASE placed where it was LOCKED (R73, R78). -/
theorem clearTimebase_eq (s : State) :
    s.clearTimebase = { s with
      timebase := { s.timebase with state := .free, quiet := false, sum := 0, count := 0, roundDeadline := some (s.now + s.roundSpan) }
      host := if s.timebase.state = .locked then s.host.answer (s.timebaseEvent .free s.timebase.trim 0) else s.host } := by
  simp only [State.clearTimebase]
  split <;> rfl

/-- A station clear, part by part (R128). -/
theorem stationClear_eq (s : State) (ev : EventRecord) :
    s.stationClear ev = { s with
      replica := Replica.clear
      claims := Vector.replicate 8 Slot.clear
      tx := s.tx.cleared
      line := { s.line with ownVetoes := 0, issuedVetoes := 0 }
      member := s.member.cleared s.orphanKind
      timebase := { s.timebase with state := .free, quiet := false, sum := 0, count := 0, roundDeadline := some (s.now + s.roundSpan) }
      host := if s.timebase.state = .locked then (s.host.raise ev).answer (s.timebaseEvent .free s.timebase.trim 0) else s.host.raise ev } := by
  simp only [State.stationClear, clearTimebase_eq]
  rfl

/-- What a station clear discards or sets makes no difference to it: here the own membership frame, the attempt and what awaits delivery. -/
theorem stationClear_congr (s : State) (ev : EventRecord) (own : Option OwnFrame) (attempt : Option Attempt) (awaiting : List FrameId) :
    { s with member := { s.member with own := own, attempt := attempt }, tx := { s.tx with awaiting := awaiting } }.stationClear ev
      = s.stationClear ev := by
  rw [stationClear_eq, stationClear_eq]
  rfl

/-- After a station clear nothing of the application is left to finish (R28, log 24). -/
theorem stationClear_finish (s : State) (ev : EventRecord) : (s.stationClear ev).finishApplication false = s.stationClear ev := by
  have hservice : (s.stationClear ev).serviceRevocations = s.stationClear ev := if_neg (by rw [stationClear_eq]; exact nofun)
  rw [State.finishApplication, hservice, stationClear_eq]
  rfl

/-- The own QUIT, handed inward, leaves the Transmit Queue and goes to the station's state (R97, R134). -/
theorem receive_ownQuit {s : State} {d : Delivered} (hf : d.frame = .quit) (ho : d.own = true) (hnote : s.member.orphanNote = none)
    (hown : s.member.own = some { kind := .quit, withdrawn := false, next := none }) :
    s.receive d
      = { s with tx := { s.tx with awaiting := s.tx.awaiting.erase .quit }, member := { s.member with own := none } }.routeFrame d := by
  simp [State.receive, ho, hf, State.endsNote, hnote, State.beaconDelivered, State.ownDelivered, Frame.id, OwnKind.ofId, hown, State.ownLeft,
    State.evictedBy, TransmitQueue.delivered]

/-- In LEAVING the own QUIT ends the leave, at a live replica or without one (R125, R126). -/
theorem routeFrame_ownQuit {s : State} {d : Delivered} (hf : d.frame = .quit) (ho : d.own = true) (hme : d.sender = s.me)
    (hst : s.member.state = .leaving) : s.routeFrame d = s.leavingEnds := by
  simp only [State.routeFrame, hst]
  split
  · simp only [State.applyLive, State.liveEffects, hf, State.liveQuit, hme, if_true, State.ownQuit, ho, hst, Bool.not_true,
      Bool.false_eq_true, if_false]
    exact stationClear_finish s _
  · simp [State.leavingFrame, ho, hf]

/-- Settles O44: a DEPART of this station's number evicts it or is read by no state; its own QUIT ends the leave. -/
theorem evictionAndOwnQuitEndTheMembership : Obligations.EvictionAndOwnQuitEndTheMembership := by
  refine ⟨fun s rest p stamp hd => ?_, fun s rest stamp tag hd hst htag hown hnote => ?_⟩
  · intro taken
    let d : Delivered := { sender := p, frame := .depart s.me, stamp := stamp, own := false }
    have hexec : exec .departFrame s = .next (if taken.evictedBy d then taken.evict else taken.routeFrame d) :=
      (exec_oldest hd).trans (congrArg Host.Outcome.next (receive_of_foreign taken rfl))
    have hevicted : taken.evictedBy d = taken.evictable := by simp [State.evictedBy, d, taken, State.me, State.cfg]
    rw [hexec, hevicted]
    refine ⟨fun h => ?_, fun h => ?_⟩
    · rw [if_pos ((evictable_iff taken).mpr h)]
      rfl
    · have hoff : taken.evictable = false := by
        obtain h | h | h | ⟨h, ha⟩ | ⟨h | h, he, -⟩ := h <;> simp [State.evictable, taken, *]
      rw [hoff, if_neg Bool.false_ne_true, routeFrame_depart (p := s.me) rfl rfl]
      exact h.imp_right (Or.imp_right (Or.imp_right (Or.imp_right fun ⟨hst, _, hl⟩ => ⟨hst, hl⟩)))
  · intro taken
    refine (exec_oldest hd).trans (congrArg Host.Outcome.next ?_)
    let d : Delivered := { sender := s.me, frame := .quit, stamp := stamp, own := true }
    let landed : State := { taken with
      tx := { taken.tx with awaiting := taken.tx.awaiting.erase .quit }
      member := { taken.member with own := none } }
    have htag' : landed.member.leaveTag.getD 0 = tag := congrArg (Option.getD · 0) htag
    calc taken.receive d
      _ = landed.routeFrame d := receive_ownQuit rfl rfl hnote hown
      _ = landed.leavingEnds := routeFrame_ownQuit rfl rfl rfl hst
      _ = landed.stationClear
          { kind := .left, tag := tag, subject := stationByte s.me, grant := 0, detail := 0, count := s.busyCount } := by
        rw [State.leavingEnds, htag']; rfl
      _ = taken.stationClear _ := stationClear_congr taken _ none taken.member.attempt (taken.tx.awaiting.erase .quit)

/-! ## Presence and the roster (R80, R86) -/

/-- A station does not hear itself. -/
theorem renewPresence_me (s : State) (stamp : Tick) : s.renewPresence s.me stamp = s := by simp [State.renewPresence]

/-- A peer that is present and for which no DEPART is out is heard; its deadline moves while this station is ONLINE (R86). -/
theorem renewPresence_eq {s : State} {p : Station} (stamp : Tick) (hme : p ≠ s.me) (hp : (s.peer p).state ≠ .absent)
    (hq : (s.peer p).departQueued = false) :
    s.renewPresence p stamp = s.setPeer p { s.peer p with
      lastHeard := some stamp
      presence := if s.member.state = .online then some (stamp + s.presenceSpan) else (s.peer p).presence } := by
  simp [State.renewPresence, State.withdrawDepart, hme, (present_iff _).mpr hp, hq]

theorem roster_set_same (v : Vector RosterEntry 16) (p : Station) (e : RosterEntry) : (v.set p e)[p] = e := by
  simp

/-- Replacing a station's entry by one of the same state changes no state of the roster. -/
theorem roster_set_state (v : Vector RosterEntry 16) (p x : Station) (e : RosterEntry) (h : e.state = (v[p]).state) :
    ((v.set p e)[x]).state = (v[x]).state := by
  by_cases hx : x = p
  · rw [hx, roster_set_same, h]
  · have hne : p.val ≠ x.val := fun he => hx (Fin.ext he.symm)
    simp [hne]

/-- The admitter of a decision is the lowest ONLINE station (R108). -/
theorem lowestOnline_eq {s : State} {admitter : Station} (hon : (s.member.roster[admitter]).state = .online)
    (hlow : ∀ x : Station, x < admitter → (s.member.roster[x]).state ≠ .online) : s.lowestOnline = some admitter := by
  refine List.find?_eq_some_iff_getElem.mpr ⟨by simpa [State.peer] using hon, admitter.val, by simp, by simp, fun j hj => ?_⟩
  simpa [State.peer] using hlow ⟨j, by omega⟩ hj

/-! ## An APPLY at the live roster (R108, R107) -/

/-- A declined APPLY: the admitter hands over a DECLINE, unless it abandons its group (R106, R108). -/
theorem liveApply_declined {s : State} {d : Delivered} {inc profile : Word16} {admitter : Station} {reason : Byte}
    (hlow : s.lowestOnline = some admitter) (hreason : s.declineReason d.sender profile = some reason) :
    s.liveApply d inc profile = if admitter = s.me ∧ s.member.abandoning = false then
      { s with tx := s.tx.handDecline { joiner := d.sender, incarnation := inc, reason := reason } } else s := by
  simp [State.liveApply, hlow, hreason, State.handsDecline]

/-- The admission that an APPLY opens (R107). -/
def admissionOf (s : State) (d : Delivered) (inc : Word16) (admitter : Station) : Admission :=
  { joiner := d.sender, incarnation := inc, admitter := admitter, capture := s.replica.seq + 1 }

/-- The station once an APPLY has opened an admission: the joiner's entry is JOINING and heard (R80, R86, R107). -/
def opened (s : State) (d : Delivered) (inc : Word16) (admitter : Station) : State :=
  { s with member := { s.member with
      admission := some (admissionOf s d inc admitter)
      roster := s.member.roster.set d.sender { RosterEntry.clear with
        state := .joining, incarnation := some inc, lastHeard := some d.stamp
        presence := if s.member.state = .online then some (d.stamp + s.presenceSpan) else none } } }

/-- An APPLY that is not declined opens the admission, and this station acts as admitter where it is the one (R108, R109). -/
theorem liveApply_opened {s : State} {d : Delivered} {inc profile : Word16} {admitter : Station} (hme : d.sender ≠ s.me)
    (hlow : s.lowestOnline = some admitter) (hreason : s.declineReason d.sender profile = none) :
    s.liveApply d inc profile = if admitter = s.me then
      (opened s d inc admitter).openAsAdmitter (admissionOf s d inc admitter) d.stamp else opened s d inc admitter := by
  let entered : State := { s with member := { s.member with
    admission := some (admissionOf s d inc admitter)
    roster := s.member.roster.set d.sender ((s.peer d.sender).enter .joining (some inc)) } }
  have hpeer : entered.peer d.sender = (s.peer d.sender).enter .joining (some inc) := roster_set_same _ _ _
  have hheard : entered.renewPresence d.sender d.stamp = opened s d inc admitter := by
    rw [renewPresence_eq (s := entered) d.stamp hme (by rw [hpeer]; exact nofun) (by rw [hpeer]; rfl), hpeer]
    simp only [State.setPeer, entered, Vector.set_set]
    rfl
  rw [← hheard]
  simp only [State.liveApply, hlow, hreason]
  rfl

/-- The first reason of R108's table that applies, row by row. -/
theorem declineReason_mismatch {s : State} {p : Station} {profile : Word16} (h : profile ≠ s.cfg.profile) :
    s.declineReason p profile = some 2 := by
  simp [State.declineReason, h, declineMismatch]

theorem declineReason_duplicate {s : State} {p : Station} (h : (s.member.roster[p]).state ≠ .absent) :
    s.declineReason p s.cfg.profile = some 3 := by
  simp [State.declineReason, (present_iff (s.peer p)).mpr h, declineDuplicate]

theorem present_eq_false {s : State} {p : Station} (h : (s.member.roster[p]).state = .absent) : (s.peer p).present = false := by
  simpa [RosterEntry.present, State.peer] using h

theorem declineReason_busy {s : State} {p : Station} (h : (s.member.roster[p]).state = .absent) (ha : s.member.admission ≠ none) :
    s.declineReason p s.cfg.profile = some 1 := by
  simp [State.declineReason, present_eq_false h, Option.isSome_iff_ne_none, ha, declineBusy]

theorem declineReason_none {s : State} {p : Station} (h : (s.member.roster[p]).state = .absent) (ha : s.member.admission = none) :
    s.declineReason p s.cfg.profile = none := by
  simp [State.declineReason, present_eq_false h, ha]

/-- An APPLY of another station handed to a live roster: its effects, and the sequence number advanced. -/
theorem exec_applyFrame {s t : State} {p : Station} {inc profile : Word16} {stamp : Tick} {rest : List Delivered}
    (h : s.HandedToMember { sender := p, frame := .apply inc profile, stamp := stamp, own := false } rest)
    (ht : ({ s with line := { s.line with delivery := rest } } : State).liveApply
      { sender := p, frame := .apply inc profile, stamp := stamp, own := false } inc profile = t) :
    exec .applyFrame s = .next { t with replica := { s.replica with seq := s.replica.seq + 1 } } := by
  refine (exec_handedToMember h nofun).trans (congrArg Host.Outcome.next ?_)
  obtain ⟨-, -, -, hlive, hm⟩ := h
  refine applyLive_of_effects hlive hm ht ?_
  rw [← ht]
  simp

/-- Settles O46: the reasons in order, and the admission that opens where none applies. -/
theorem applyIsDeclinedOrOpensTheAdmission : Obligations.ApplyIsDeclinedOrOpensTheAdmission := by
  intro s rest p admitter inc profile stamp hd hme hon hlow handed declined
  let d : Delivered := { sender := p, frame := .apply inc profile, stamp := stamp, own := false }
  let taken : State := { s with line := { s.line with delivery := rest } }
  have hlowest : taken.lowestOnline = some admitter := lowestOnline_eq hon hlow
  have hdeclined (reason : Byte) (hreason : taken.declineReason p profile = some reason) : exec .applyFrame s = declined reason := by
    have hlive : taken.liveApply d inc profile = if admitter = s.me ∧ s.member.abandoning = false then
        { taken with tx := s.tx.handDecline { joiner := p, incarnation := inc, reason := reason } } else taken :=
      liveApply_declined hlowest hreason
    refine (exec_applyFrame hd hlive).trans ?_
    simp only [declined]
    by_cases hours : admitter = s.me ∧ s.member.abandoning = false
    · rw [if_pos hours, if_pos hours]
    · rw [if_neg hours, if_neg hours]
  refine ⟨fun hp => ?_, fun hp he => ?_, fun hp he ha => ?_, fun hp he ha hother => ?_⟩
  · exact hdeclined 2 (declineReason_mismatch hp)
  · exact hdeclined 3 (hp ▸ declineReason_duplicate he)
  · exact hdeclined 1 (hp ▸ declineReason_busy he ha)
  · have hreason : taken.declineReason p profile = none := hp ▸ declineReason_none he ha
    exact exec_applyFrame hd ((liveApply_opened (s := taken) (d := d) hme hlowest hreason).trans (if_neg hother))

/-! ## Stream frames at the live roster (R110, R111, R92) -/

theorem matchesAdmission_iff {s : State} {d : Delivered} {a : Admission} (h : s.member.admission = some a) (j : Station) (inc : Option Word16) :
    s.matchesAdmission d j inc = true ↔ a.admitter = d.sender ∧ a.joiner = j ∧ ∀ i, inc = some i → a.incarnation = i := by
  cases inc <;> simp [State.matchesAdmission, h, and_assoc]

/-- A matching SNAP_END closes the admission; the joiner becomes ONLINE, and PEER_JOINED is raised (R111, R92). -/
theorem liveSnapEnd_eq {s u : State} {d : Delivered} {j : Station} (hmatch : s.matchesAdmission d j none = true)
    (hu : s.renewPresence d.sender d.stamp = u) (hj : (u.member.roster[j]).state = .joining) :
    s.liveSnapEnd d j = { u with
      host := u.host.answer
        { kind := .peerJoined, tag := 0, subject := stationByte j, grant := 0, detail := 0
          count := BitVec.ofNat 8 ((List.finRange 16).filter (fun x => x ≠ u.me ∧ (x = j ∨ (u.member.roster[x]).state = .online))).length }
      member := { u.member with
        admission := none
        snapshot := if d.own then .empty else u.member.snapshot
        roster := u.member.roster.set j { u.member.roster[j] with state := .online } } } := by
  let joined : State := { u with member := { u.member with
    admission := none
    snapshot := if d.own then .empty else u.member.snapshot
    roster := u.member.roster.set j { u.member.roster[j] with state := .online } } }
  have hstate (x : Station) : (joined.member.roster[x]).state = .online ↔ x = j ∨ (u.member.roster[x]).state = .online := by
    by_cases hx : x = j
    · simp [joined, hx]
    · have hne : j.val ≠ x.val := fun he => hx (Fin.ext he.symm)
      simp [joined, hx, hne]
  have hcount : joined.onlinePeers
      = ((List.finRange 16).filter (fun x => x ≠ u.me ∧ (x = j ∨ (u.member.roster[x]).state = .online))).length := by
    rw [onlinePeers_eq]
    simp only [hstate]
    rfl
  have hjoined : s.liveSnapEnd d j = joined.placeAtOnce (joined.peerJoined j) := by
    simp only [State.liveSnapEnd, hmatch, if_true, hu]
    exact if_pos hj
  rw [hjoined, State.peerJoined, hcount]
  rfl

theorem decline_of_kind {f : Frame} (h : f.kind = .decline) : ∃ body, f = .decline body := by
  cases f with
  | decline body => exact ⟨body, rfl⟩
  | _ => cases h

/-- Settles O52: the renewal of the admitter, and with SNAP_END the end of the admission. -/
theorem streamFramesCompleteTheAdmission : Obligations.StreamFramesCompleteTheAdmission := by
  intro s rest p j f stamp adm hd hme hjme hpj hadm hadmitter hjoiner hon hdq hjoining heard handed
  let d : Delivered := { sender := p, frame := f, stamp := stamp, own := false }
  let taken : State := { s with line := { s.line with delivery := rest } }
  have hmember : s.HandedToMember d rest := HandedByPeer.handedToMember hd
  obtain ⟨-, -, hst, hlive, hm⟩ := hd
  have hheard : taken.renewPresence p stamp = { taken with member := { s.member with roster := s.member.roster.set p heard } } :=
    LeaseTime.renewPresence_online (s := taken) stamp hme (by rw [present_iff]; exact hon ▸ nofun) hst hdq
  have hexec (t : State) (hdep : f ≠ .depart s.me) (heff : taken.liveEffects d false = t) (hrep : t.replica = s.replica) :
      exec f.kind.handing s = .next { t with replica := { s.replica with seq := s.replica.seq + 1 } } :=
    (exec_handedToMember hmember hdep).trans (congrArg Host.Outcome.next (applyLive_of_effects hlive hm heff hrep))
  have hmatch (inc : Option Word16) (hinc : ∀ i, inc = some i → adm.incarnation = i) : taken.matchesAdmission d j inc = true :=
    (matchesAdmission_iff (s := taken) hadm j inc).mpr ⟨hadmitter, hjoiner, hinc⟩
  refine ⟨fun hkind => ?_, fun digest hf => ?_⟩
  · have heff : f ≠ .depart s.me ∧ taken.liveEffects d false = taken.renewPresence p stamp := by
      obtain hk | ⟨capture, parts, states, rfl⟩ | ⟨part, rfl⟩ := hkind
      · obtain ⟨body, rfl⟩ := decline_of_kind hk
        exact ⟨nofun, rfl⟩
      · refine ⟨nofun, ?_⟩
        simp [State.liveEffects, d, State.liveAdmit, hmatch _ (fun i h => Option.some.inj h), State.streamed]
      · refine ⟨nofun, ?_⟩
        simp [State.liveEffects, d, State.liveSnapshot, hmatch none nofun, State.streamed]
    refine (hexec _ heff.1 (heff.2.trans hheard) rfl).trans ?_
    rfl
  · subst hf
    have hstate (x : Station) : ((s.member.roster.set p heard)[x]).state = (s.member.roster[x]).state := roster_set_state _ _ _ _ rfl
    have heff := liveSnapEnd_eq (s := taken) (d := d) (hmatch none nofun) hheard ((hstate j).trans hjoining)
    refine (hexec _ nofun heff rfl).trans ?_
    have hj : (s.member.roster.set p heard)[j] = s.member.roster[j] := by
      have hne : p.val ≠ j.val := fun he => hpj (Fin.ext he)
      simp [hne]
    simp only [hstate, hj]
    rfl

/-! ## The roster states of an ADMIT (R194) -/

theorem shiftLeft_or_toNat (acc : BitVec 32) (n c : Nat) (hc : c < 4) (hacc : acc.toNat = n % 2 ^ 32) :
    ((acc <<< 2) ||| BitVec.ofNat 32 c).toNat = (c + 4 * n) % 2 ^ 32 := by
  have hshift : (acc <<< 2).toNat = (n % 2 ^ 30) <<< 2 := by
    rw [BitVec.toNat_shiftLeft, hacc, Nat.shiftLeft_eq, Nat.shiftLeft_eq]; omega
  have hcode : (BitVec.ofNat 32 c).toNat = c := by rw [BitVec.toNat_ofNat]; omega
  rw [BitVec.toNat_or, hshift, hcode, ← Nat.shiftLeft_add_eq_or_of_lt hc, Nat.shiftLeft_eq]
  omega

/-- Codes shifted in two bits at a time are the digits of a number to base 4, the last one lowest. -/
theorem foldl_codes_toNat (f : Station → Nat) (hf : ∀ x, f x < 4) (l : List Station) (h : l.length ≤ 16) :
    (l.foldl (fun (acc : BitVec 32) x => (acc <<< 2) ||| BitVec.ofNat 32 (f x)) 0).toNat = Nat.ofDigits 4 (l.reverse.map f) := by
  have hmod (l : List Station) : (l.foldl (fun (acc : BitVec 32) x => (acc <<< 2) ||| BitVec.ofNat 32 (f x)) 0).toNat
      = Nat.ofDigits 4 (l.reverse.map f) % 2 ^ 32 := by
    induction l using List.reverseRecOn with
    | nil => rfl
    | append_singleton l x ih =>
      rw [List.foldl_append, List.reverse_append]
      exact shiftLeft_or_toNat _ _ _ (hf x) ih
  have hlt : Nat.ofDigits 4 (l.reverse.map f) < 4 ^ (l.reverse.map f).length :=
    Nat.ofDigits_lt_base_pow_length (by decide) (by simpa using fun x _ => hf x)
  have hpow : 4 ^ (l.reverse.map f).length ≤ 4 ^ 16 := Nat.pow_le_pow_right (by decide) (by simpa using h)
  rw [hmod, Nat.mod_eq_of_lt (by omega)]

theorem rosterState_code_lt (st : RosterState) : st.code < 4 := by cases st <;> decide

/-- Two bits of the ADMIT's roster states per station, station 0 in the top two. -/
theorem rosterStates_code (s : State) (x : Station) :
    BitVec.ofNat 2 (s.rosterStates.toNat / 4 ^ (15 - x.val)) = BitVec.ofNat 2 (s.peer x).state.code := by
  let f (x : Station) : Nat := (s.peer x).state.code
  have hf (x : Station) : f x < 4 := rosterState_code_lt _
  let digits := (List.finRange 16).reverse.map f
  have hvalue : s.rosterStates.toNat = Nat.ofDigits 4 digits := foldl_codes_toNat f hf _ (by simp)
  have hsmall : ∀ c ∈ digits, c < 4 := by
    intro c hc
    obtain ⟨x, -, rfl⟩ := List.mem_map.mp hc
    exact hf x
  have hplace : digits.drop (15 - x.val) = f x :: digits.drop (15 - x.val + 1) := by
    rw [List.drop_eq_getElem_cons (by simp [digits]; omega)]
    have hx : 15 - (15 - x.val) = x.val := by omega
    simp [digits, hx]
  apply BitVec.eq_of_toNat_eq
  rw [BitVec.toNat_ofNat, BitVec.toNat_ofNat, hvalue, Nat.ofDigits_div_pow_eq_ofDigits_drop _ (by decide) digits hsmall, hplace, Nat.ofDigits_cons]
  exact Nat.add_mul_mod_self_left _ _ _

/-! ## This station as the admitter (R109, R110, R141) -/

/-- The admitter removes its DECLINEs for the joiner; unless it abandons its group it captures the replica and queues ADMIT (R109, R141). -/
theorem openAsAdmitter_eq (s : State) (a : Admission) (time : Tick) :
    s.openAsAdmitter a time =
      let cleared := ({ s.tx with pendingDeclines := s.tx.pendingDeclines.filter (fun d => d.joiner != a.joiner) }.withdraw (.decline a.joiner)).2
      let c := s.captureFor a.joiner time
      { s with
        tx := if s.member.abandoning = true then cleared else (cleared.insert (c.opening a)).2
        member := { s.member with snapshot := if s.member.abandoning = true then s.member.snapshot else .capture c } } := by
  simp only [State.openAsAdmitter]
  by_cases hab : s.member.abandoning = true
  · have h : (s.removeDeclines a.joiner).member.abandoning = true := hab
    rw [if_pos h, if_pos hab, if_pos hab]
    rfl
  · have h : ¬ (s.removeDeclines a.joiner).member.abandoning = true := hab
    rw [if_neg h, if_neg hab, if_neg hab]
    rfl

/-- An own stream frame, handed inward at a live roster, no longer awaits delivery and is applied (R134, R159). -/
theorem exec_ownStream {s : State} {d : Delivered} {rest : List Delivered} (hd : s.line.delivery = d :: rest) (ho : d.own = true)
    (hid : d.frame.id = .stream) (hst : s.member.state = .founding ∨ s.member.state = .online) :
    exec d.frame.kind.handing s = .next ({ s with
      line := { s.line with delivery := rest }
      tx := { s.tx with awaiting := s.tx.awaiting.erase .stream } }.applyLive d false) := by
  let taken : State := { s with
    line := { s.line with delivery := rest }
    tx := { s.tx with awaiting := s.tx.awaiting.erase .stream } }
  have hnote : taken.endsNote d = false := by simp [State.endsNote, hid, OwnKind.ofId]
  have hbeacon : taken.beaconDelivered d = taken := by
    unfold State.beaconDelivered; split
    · rename_i b hb; rw [hb] at hid; cases hid
    · rfl
  have hown : taken.ownDelivered d = taken := by simp [State.ownDelivered, hid, OwnKind.ofId]
  have hevict : taken.evictedBy d = false := by
    refine evictedBy_of_ne fun h => ?_
    rw [h] at hid; cases hid
  refine (exec_oldest hd).trans (congrArg Host.Outcome.next ?_)
  have hreceive : State.receive { s with line := { s.line with delivery := rest } } d = taken.routeFrame d := by
    simp only [State.receive, ho, if_true, hid, TransmitQueue.delivered]
    rw [if_neg (by rw [hnote]; exact Bool.false_ne_true), hbeacon, hown, if_neg (by rw [hevict]; exact Bool.false_ne_true)]
  rw [hreceive]
  exact routeFrame_of_member (s := taken) d hst

/-- The next frame of the stream is queued: the next part, or SNAP_END after the last (R110, R139). -/
theorem nextStreamFrame_eq {s : State} {c : Capture} (h : s.member.snapshot = .capture c) :
    s.nextStreamFrame = { s with
      tx := (s.tx.insert (match c.parts[c.sent]? with | some part => .snapshot c.joiner part | none => .snapEnd c.joiner c.digest)).2
      member := { s.member with snapshot := .capture { c with sent := c.sent + 1 } } } := by
  simp only [State.nextStreamFrame, h]
  cases c.parts[c.sent]? <;> rfl

/-! ## The parts of a capture (R109, R194) -/

/-- What the division into parts promises of a list of members: nothing is lost, no part is empty or has more than four, and only the last has
fewer. -/
structure InParts (ms : List Member) (parts : List (List Member)) : Prop where
  flatten : parts.flatten = ms
  nonempty : ms ≠ [] → ∀ x ∈ parts, x ≠ []
  size : ∀ x ∈ parts, x.length ≤ 4
  full : ∀ x ∈ parts.dropLast, x.length = 4

theorem inParts_single {ms : List Member} (h : ms.length ≤ 4) : InParts ms [ms] where
  flatten := by simp
  nonempty hne := by simpa using hne
  size := by simpa using h
  full := by simp

theorem length_le_of_not_four {ms : List Member} (h : ∀ a b c d rest, ms = a :: b :: c :: d :: rest → False) : ms.length ≤ 4 := by
  rcases ms with _ | ⟨a, _ | ⟨b, _ | ⟨c, _ | ⟨d, rest⟩⟩⟩⟩
  · simp
  · simp
  · simp
  · simp
  · exact (h a b c d rest rfl).elim

theorem partsOfFour_inParts (ms : List Member) : InParts ms (partsOfFour ms) := by
  induction ms using partsOfFour.induct with
  | case1 => exact ⟨rfl, nofun, nofun, nofun⟩
  | case2 a b c d rest ih =>
    obtain ⟨hflat, hne, hsize, hfull⟩ := ih
    rw [partsOfFour]
    cases hp : partsOfFour rest with
    | nil =>
      have hrest : rest = [] := by rw [← hflat, hp]; rfl
      rw [hrest]
      exact inParts_single le_rfl
    | cons y ys =>
      have hrest : rest ≠ [] := by rintro rfl; cases hp
      rw [hp] at hflat hne hsize hfull
      refine ⟨by rw [List.flatten_cons, hflat]; rfl, fun _ => ?_, ?_, ?_⟩
      · exact List.forall_mem_cons.mpr ⟨List.cons_ne_nil _ _, hne hrest⟩
      · exact List.forall_mem_cons.mpr ⟨le_rfl, hsize⟩
      · rw [List.dropLast_cons_cons]
        exact List.forall_mem_cons.mpr ⟨rfl, hfull⟩
  | case3 ms hnil hfour =>
    rw [partsOfFour.eq_3 ms hnil hfour]
    exact inParts_single (length_le_of_not_four hfour)

theorem partsOfFour_ne_nil {ms : List Member} (h : ms ≠ []) : partsOfFour ms ≠ [] := fun hp => by
  have := (partsOfFour_inParts ms).flatten
  rw [hp] at this
  exact h this.symm

/-- A resource has at least one part, an empty one where it has no member. -/
theorem memberParts_inParts (ms : List Member) : memberParts ms ≠ [] ∧ InParts ms (memberParts ms) := by
  unfold memberParts
  cases ms with
  | nil => exact ⟨List.cons_ne_nil _ _, inParts_single (Nat.zero_le _)⟩
  | cons m ms => exact ⟨partsOfFour_ne_nil (List.cons_ne_nil m ms), partsOfFour_inParts _⟩

/-- A part as it stands before it is numbered. -/
def unnumbered (x : SnapshotPart) : SnapshotPart := { x with index := 0 }

/-- The parts that a capture has of a resource, not yet numbered. -/
def resourceParts (rep : Replica) (c : ConfigRecord) (time : Tick) (r : Nat) : List SnapshotPart :=
  let e := rep.entry r
  if e.state = .free && e.counter = 0 && e.holders.isEmpty && e.waiters.isEmpty then [] else e.parts r c time

theorem captureParts_eq (rep : Replica) (c : ConfigRecord) (time : Tick) :
    rep.captureParts c time = ((List.range c.resourceCount).flatMap (resourceParts rep c time)).zipIdx.map
      (fun p => { p.1 with index := BitVec.ofNat 8 p.2 }) := rfl

theorem resourceParts_clear {rep : Replica} {r : Nat} (c : ConfigRecord) (time : Tick) (h : rep.entry r = ResourceEntry.clear) :
    resourceParts rep c time r = [] := by
  simp [resourceParts, h, ResourceEntry.clear]

theorem resourceParts_of_ne {rep : Replica} {r : Nat} (c : ConfigRecord) (time : Tick) (h : rep.entry r ≠ ResourceEntry.clear) :
    resourceParts rep c time r = (rep.entry r).parts r c time := by
  refine if_neg fun hclear => h ?_
  generalize rep.entry r = e at hclear
  obtain ⟨st, counter, holders, waiters⟩ := e
  simpa [ResourceEntry.clear, and_assoc] using hclear

/-- Every part of a resource carries its number, and is not numbered itself. -/
theorem resourceParts_mem {rep : Replica} {c : ConfigRecord} {time : Tick} {r : Nat} {x : SnapshotPart} (hr : r < 64)
    (hx : x ∈ resourceParts rep c time r) : x.resource.toNat = r ∧ unnumbered x = x := by
  by_cases h : rep.entry r = ResourceEntry.clear
  · rw [resourceParts_clear c time h] at hx; cases hx
  · rw [resourceParts_of_ne c time h] at hx
    obtain ⟨ms, -, rfl⟩ := List.mem_map.mp hx
    exact ⟨by rw [BitVec.toNat_ofNat]; omega, rfl⟩

theorem resourceCount_le (c : ConfigRecord) : c.resourceCount ≤ 64 := c.lastResource.isLt

/-- The parts of a capture before they are numbered. -/
theorem captureParts_unnumbered (rep : Replica) (c : ConfigRecord) (time : Tick) :
    (rep.captureParts c time).map unnumbered = (List.range c.resourceCount).flatMap (resourceParts rep c time) := by
  rw [captureParts_eq, List.map_map]
  refine (List.map_congr_left fun p hp => ?_).trans (List.zipIdx_map_fst 0 _)
  obtain ⟨r, hr, hx⟩ := List.mem_flatMap.mp (List.fst_mem_of_mem_zipIdx hp)
  have hr64 : r < 64 := (List.mem_range.mp hr).trans_le (resourceCount_le c)
  exact (resourceParts_mem hr64 hx).2

/-- A part of a capture comes from a configured resource. -/
theorem captureParts_mem {rep : Replica} {c : ConfigRecord} {time : Tick} {x : SnapshotPart} (hx : x ∈ rep.captureParts c time) :
    x.resource.toNat < c.resourceCount ∧ unnumbered x ∈ resourceParts rep c time x.resource.toNat := by
  have hmem : unnumbered x ∈ (List.range c.resourceCount).flatMap (resourceParts rep c time) := by
    rw [← captureParts_unnumbered]; exact List.mem_map_of_mem hx
  obtain ⟨r, hr, hxr⟩ := List.mem_flatMap.mp hmem
  have hlt := List.mem_range.mp hr
  have hres : x.resource.toNat = r := (resourceParts_mem (hlt.trans_le (resourceCount_le c)) hxr).1
  exact ⟨hres ▸ hlt, hres ▸ hxr⟩

theorem captureParts_index (rep : Replica) (c : ConfigRecord) (time : Tick) :
    (rep.captureParts c time).map (fun x => x.index) = (List.range (rep.captureParts c time).length).map (BitVec.ofNat 8) := by
  rw [captureParts_eq, List.map_map, List.length_map, List.length_zipIdx]
  generalize (List.range c.resourceCount).flatMap (resourceParts rep c time) = ps
  rw [List.range_eq_range', ← List.zipIdx_map_snd 0 ps, List.map_map]
  rfl

theorem captureParts_ascending (rep : Replica) (c : ConfigRecord) (time : Tick) :
    ((rep.captureParts c time).map (fun x => x.resource.toNat)).Pairwise (· ≤ ·) := by
  have hmap : (rep.captureParts c time).map (fun x => x.resource.toNat)
      = ((List.range c.resourceCount).flatMap (resourceParts rep c time)).map (fun x => x.resource.toNat) := by
    rw [← captureParts_unnumbered, List.map_map]; rfl
  have hres (r : Nat) (hr : r ∈ List.range c.resourceCount) (x : SnapshotPart) (hx : x ∈ resourceParts rep c time r) : x.resource.toNat = r :=
    (resourceParts_mem ((List.mem_range.mp hr).trans_le (resourceCount_le c)) hx).1
  rw [hmap, List.pairwise_map, List.pairwise_flatMap]
  refine ⟨fun r hr => ?_, ?_⟩
  · exact List.pairwise_of_forall_mem_list fun x hx y hy => by rw [hres r hr x hx, hres r hr y hy]
  · refine (List.pairwise_lt_range (n := c.resourceCount)).imp_of_mem fun {q r} hq hr hlt x hx y hy => ?_
    rw [hres q hq x hx, hres r hr y hy]
    exact hlt.le

/-- What a list of numbers gives at one of them alone. -/
theorem flatMap_range_single {α : Type} (l : List α) (r n : Nat) (h : r < n) :
    (List.range n).flatMap (fun q => if q = r then l else []) = l := by
  induction n with
  | zero => exact absurd h (Nat.not_lt_zero r)
  | succ n ih =>
    rw [List.range_succ, List.flatMap_append, List.flatMap_singleton]
    by_cases hr : r = n
    · have hnone : (List.range n).flatMap (fun q => if q = r then l else []) = [] := by
        refine List.flatMap_eq_nil_iff.mpr fun q hq => if_neg ?_
        have := List.mem_range.mp hq
        omega
      rw [hnone, if_pos hr.symm]; rfl
    · rw [ih (by omega), if_neg (Ne.symm hr), List.append_nil]

/-- The parts of one resource in a capture, unnumbered. -/
theorem captureParts_filter {rep : Replica} {c : ConfigRecord} {time : Tick} {r : Nat} (hr : r < c.resourceCount) :
    ((rep.captureParts c time).filter (fun x => x.resource.toNat = r)).map unnumbered = resourceParts rep c time r := by
  have hfilter : ((rep.captureParts c time).filter (fun x => x.resource.toNat = r)).map unnumbered
      = ((rep.captureParts c time).map unnumbered).filter (fun x => x.resource.toNat = r) := by
    rw [List.filter_map]; rfl
  rw [hfilter, captureParts_unnumbered, List.filter_flatMap]
  refine Eq.trans ?_ (flatMap_range_single (resourceParts rep c time r) r c.resourceCount hr)
  refine List.flatMap_congr fun q hq => ?_
  have hq64 : q < 64 := (List.mem_range.mp hq).trans_le (resourceCount_le c)
  by_cases hqr : q = r
  · rw [if_pos hqr, ← hqr]
    exact List.filter_eq_self.mpr fun x hx => by simpa using (resourceParts_mem hq64 hx).1
  · rw [if_neg hqr]
    exact List.filter_eq_nil_iff.mpr fun x hx => by simpa [(resourceParts_mem hq64 hx).1] using hqr

theorem mode_code_eq (m : Mode) : m.code = if m = .exclusive then 1 else 2 := by cases m <;> rfl

/-- The parts of a resource that is not as after a station clear (R109). -/
theorem captureParts_resource {rep : Replica} {c : ConfigRecord} {r : Nat} (time : Tick) (hr : r < c.resourceCount)
    (he : rep.entry r ≠ ResourceEntry.clear) :
    let own := (rep.captureParts c time).filter (fun x => x.resource.toNat = r)
    let members := (rep.entry r).members c time
    own ≠ [] ∧ own.flatMap (fun x => x.members) = members
      ∧ (∀ x ∈ own, x.state = BitVec.ofNat 2 (rep.entry r).state.code ∧ x.counter = (rep.entry r).counter ∧ x.members.length ≤ 4
        ∧ (members ≠ [] → x.members ≠ []))
      ∧ (∀ x ∈ own.dropLast, x.members.length = 4) := by
  intro own members
  let part (ms : List Member) : SnapshotPart :=
    { index := 0, resource := BitVec.ofNat 8 r, state := BitVec.ofNat 2 (rep.entry r).state.code, counter := (rep.entry r).counter, members := ms }
  obtain ⟨hne, hflat, hnonempty, hsize, hfull⟩ := memberParts_inParts members
  have hown : own.map unnumbered = (memberParts members).map part := by
    rw [captureParts_filter hr, resourceParts_of_ne c time he]; rfl
  have hmembers : own.map (fun x => x.members) = memberParts members := by
    calc own.map (fun x => x.members)
      _ = (own.map unnumbered).map (fun x => x.members) := by rw [List.map_map]; rfl
      _ = ((memberParts members).map part).map (fun x => x.members) := by rw [hown]
      _ = memberParts members := by rw [List.map_map]; exact List.map_id _
  refine ⟨?_, ?_, fun x hx => ?_, fun x hx => ?_⟩
  · intro hnil
    rw [hnil] at hmembers
    exact hne hmembers.symm
  · rw [List.flatMap_def, hmembers, hflat]
  · have hms : x.members ∈ memberParts members := hmembers ▸ List.mem_map_of_mem hx
    have hpart : unnumbered x ∈ (memberParts members).map part := hown ▸ List.mem_map_of_mem hx
    obtain ⟨ms, -, hms'⟩ := List.mem_map.mp hpart
    have hstate := congrArg SnapshotPart.state hms'
    have hcounter := congrArg SnapshotPart.counter hms'
    exact ⟨hstate.symm, hcounter.symm, hsize _ hms, fun h => hnonempty h _ hms⟩
  · refine hfull x.members ?_
    rw [← hmembers, ← List.map_dropLast]
    exact List.mem_map_of_mem hx

/-! ## The admitter's part in an admission (R109 to R111) -/

/-- The states that the opening ADMIT carries: the roster's, the joiner JOINING. -/
theorem opened_state (s : State) (d : Delivered) (inc : Word16) (admitter x : Station) :
    ((opened s d inc admitter).peer x).state.code = if x = d.sender then 1 else (s.member.roster[x]).state.code := by
  by_cases hx : x = d.sender
  · subst hx
    simp [opened, State.peer, RosterState.code]
  · have hne : d.sender.val ≠ x.val := fun he => hx (Fin.ext he.symm)
    simp [opened, State.peer, hx, hne]

/-- Settles O47: the capture at the APPLY, the parts it consists of, and the stream to its end. -/
theorem admitterCapturesAndStreams : Obligations.AdmitterCapturesAndStreams := by
  refine ⟨fun s rest p inc stamp hd hme hon hlow habsent hadm => ?_, fun rep c time => ?_, fun s rest f stamp adm hd hst hlive hm hadm hours hjme => ?_⟩
  · let d : Delivered := { sender := p, frame := .apply inc s.cfg.profile, stamp := stamp, own := false }
    let taken : State := { s with line := { s.line with delivery := rest } }
    let t : State := opened taken d inc s.me
    refine ⟨t.rosterStates, fun x => ?_, ?_⟩
    · rw [rosterStates_code, opened_state]
    · intro parts cleared
      have hlowest : taken.lowestOnline = some s.me := lowestOnline_eq hon hlow
      have hreason : taken.declineReason p s.cfg.profile = none := declineReason_none (s := taken) habsent hadm
      have heff : taken.liveApply d inc s.cfg.profile = t.openAsAdmitter (admissionOf taken d inc s.me) stamp :=
        (liveApply_opened (s := taken) (d := d) hme hlowest hreason).trans (if_pos rfl)
      refine (exec_applyFrame hd (heff.trans (openAsAdmitter_eq t _ stamp))).trans ?_
      rfl
  · intro parts
    refine ⟨captureParts_index rep c time, captureParts_ascending rep c time, fun x hx => (captureParts_mem hx).1, fun r hr => ?_⟩
    intro e remaining members own
    have hentry : rep.entry r.val = e := rep.entry_fin r
    have hmembers : (rep.entry r.val).members c time = members := by
      simp only [ResourceEntry.members, mode_code_eq, hentry]
      rfl
    refine ⟨fun hclear => ?_, fun hne => ?_⟩
    · have hnone : own.map unnumbered = [] := by
        rw [captureParts_filter hr, resourceParts_clear c time (hentry.trans hclear)]
      exact List.map_eq_nil_iff.mp hnone
    · rw [← hmembers, ← hentry]
      exact captureParts_resource time hr (hentry ▸ hne)
  · intro handed
    let d : Delivered := { sender := s.me, frame := f, stamp := stamp, own := true }
    let taken : State := { s with
      line := { s.line with delivery := rest }
      tx := { s.tx with awaiting := s.tx.awaiting.erase .stream } }
    have hexec (t : State) (hid : f.id = .stream) (heff : taken.liveEffects d false = t) (hrep : t.replica = s.replica) :
        exec f.kind.handing s = .next { t with replica := { s.replica with seq := s.replica.seq + 1 } } :=
      (exec_ownStream hd rfl hid hst).trans (congrArg Host.Outcome.next (applyLive_of_effects (s := taken) hlive hm heff hrep))
    have hmatch (inc : Option Word16) (hinc : ∀ i, inc = some i → adm.incarnation = i) : taken.matchesAdmission d adm.joiner inc = true :=
      (matchesAdmission_iff (s := taken) hadm adm.joiner inc).mpr ⟨hours, rfl, hinc⟩
    have hheard : taken.renewPresence d.sender d.stamp = taken := renewPresence_me taken stamp
    have hstreamed : taken.streamed d = taken.nextStreamFrame := by simp only [State.streamed, hheard, d, if_true]
    refine ⟨fun c hc hf => ?_, fun digest hf hjoining => ?_⟩
    · have heff : f.id = .stream ∧ taken.liveEffects d false = taken.nextStreamFrame := by
        obtain ⟨capture, parts, states, rfl⟩ | ⟨part, rfl⟩ := hf
        · refine ⟨rfl, ?_⟩
          rw [← hstreamed]
          exact if_pos (hmatch _ fun i h => Option.some.inj h)
        · refine ⟨rfl, ?_⟩
          rw [← hstreamed]
          exact if_pos (hmatch none nofun)
      exact hexec _ heff.1 (heff.2.trans (nextStreamFrame_eq hc)) rfl
    · subst hf
      have heff := liveSnapEnd_eq (s := taken) (d := d) (hmatch none nofun) hheard hjoining
      exact hexec _ rfl heff rfl

/-! ## A joiner in phase AWAITING (R114 to R116) -/

/-- The attempt once a frame has been counted (R114). -/
@[reducible] def counted (a : Attempt) : Attempt := { a with accepted := a.accepted + 1 }

/-- A frame in phase AWAITING or COLLECTING that is counted (R114). -/
theorem joinerFrame_counted {s : State} {d : Delivered} {a : Attempt} (ha : s.member.attempt = some a)
    (hph : a.phase = .awaiting ∨ a.phase = .collecting) (hc : s.countsFrame a d = true) :
    s.joinerFrame d = (s.setAttempt (counted a)).attemptFrame (counted a) d := by
  obtain h | h := hph <;> simp only [State.joinerFrame, ha, h, hc, if_true, counted]

/-- A counted frame handed to a station in JOINING (R114, R159). -/
theorem exec_joining {s t : State} {d : Delivered} {rest : List Delivered} {a : Attempt} (hd : s.line.delivery = d :: rest) (ho : d.own = false)
    (hdep : d.frame ≠ .depart s.me) (hst : s.member.state = .joining) (ha : s.member.attempt = some a) (hph : a.phase = .awaiting)
    (hc : ∀ u : State, u.countsFrame a d = true)
    (ht : (State.setAttempt { s with line := { s.line with delivery := rest } } (counted a)).attemptFrame (counted a) d = t) : exec d.frame.kind.handing s = .next t := by
  refine (exec_foreign hd ho hdep).trans (congrArg Host.Outcome.next ?_)
  have hroute : State.routeFrame { s with line := { s.line with delivery := rest } } d
      = State.joinerFrame { s with line := { s.line with delivery := rest } } d := by simp only [State.routeFrame, hst]
  rw [hroute, joinerFrame_counted (s := { s with line := { s.line with delivery := rest } }) ha (.inl hph) (hc _), ht]

/-- The Catch-up Queue shows a departure of a station: its QUIT, or a DEPART naming it (R116). -/
theorem hasLeft_iff (a : Attempt) (p : Station) :
    a.hasLeft p = true ↔ ∃ d ∈ a.catchup, d.frame = .depart p ∨ (d.frame = .quit ∧ d.sender = p) := by
  have hone (d : Delivered) : (match d.frame with | .quit => d.sender == p | .depart q => q == p | _ => false) = true
      ↔ d.frame = .depart p ∨ (d.frame = .quit ∧ d.sender = p) := by
    cases d.frame <;> simp
  rw [Attempt.hasLeft, List.any_eq_true]
  exact exists_congr fun d => and_congr_right fun _ => hone d

/-- The two bits of a station in an ADMIT, as a digit to base 4 (R194). -/
theorem rosterCodeAt_eq (states : BitVec 32) (x : Station) : rosterCodeAt states x = BitVec.ofNat 2 (states.toNat / 4 ^ (15 - x.val)) := by
  have hpow : 4 ^ (15 - x.val) = 2 ^ (30 - 2 * x.val) := by
    rw [show (4 : Nat) = 2 ^ 2 from rfl, ← Nat.pow_mul]
    congr 1
    omega
  apply BitVec.eq_of_toNat_eq
  rw [rosterCodeAt, BitVec.extractLsb'_toNat, BitVec.toNat_ofNat, Nat.shiftRight_eq_div_pow, hpow]

theorem rosterState_ofCode_eq_none_iff : ∀ c : BitVec 2, RosterState.ofCode c = none ↔ c = 3 := by decide

theorem rosterState_ofCode_getD : ∀ c : BitVec 2,
    (RosterState.ofCode c).getD .absent = if c = 2 then .online else if c = 1 then .joining else .absent := by decide

theorem rosterState_ofCode_absent_iff : ∀ c : BitVec 2, c ≠ 3 → ((RosterState.ofCode c).getD .absent = .absent ↔ c = 0) := by decide

/-- The states are unusable where a code is 3 or this station is not JOINING in them (R116, R195). -/
theorem badRosterStates_iff (s : State) (states : BitVec 32) :
    s.badRosterStates states = true ↔ (∃ x : Station, rosterCodeAt states x = 3) ∨ rosterCodeAt states s.me ≠ 1 := by
  simp [State.badRosterStates, rosterState_ofCode_eq_none_iff]

/-- The roster once a station is heard by one that is not ONLINE (R86). -/
def heardRoster (s : State) (p : Station) (stamp : Tick) : Vector RosterEntry 16 :=
  Vector.ofFn (fun x : Station =>
    if x = p ∧ x ≠ s.me ∧ (s.member.roster[x]).state ≠ .absent then { s.member.roster[x] with lastHeard := some stamp } else s.member.roster[x])

/-- A station that is not ONLINE hears a peer, for which no DEPART is out: only the last-heard stamp moves (R86). -/
theorem renewPresence_not_online {s : State} {p : Station} (stamp : Tick) (hst : s.member.state ≠ .online)
    (hq : (s.peer p).departQueued = false) :
    s.renewPresence p stamp = { s with member := { s.member with roster := heardRoster s p stamp } } := by
  by_cases h : p ≠ s.me ∧ (s.peer p).state ≠ .absent
  · rw [renewPresence_eq stamp h.1 h.2 hq, if_neg hst]
    have hroster : s.member.roster.set p { s.peer p with lastHeard := some stamp } = heardRoster s p stamp := by
      refine Vector.ext fun i hi => ?_
      rw [heardRoster, Vector.getElem_ofFn, Vector.getElem_set]
      by_cases hip : p.val = i
      · subst hip
        exact (if_pos rfl).trans (if_pos ⟨rfl, h⟩).symm
      · have hne : (⟨i, hi⟩ : Station) ≠ p := fun he => hip (congrArg Fin.val he).symm
        rw [if_neg hip, if_neg (fun hc => hne hc.1)]
        rfl
    rw [State.setPeer, hroster]
  · have hsame : s.renewPresence p stamp = s := by
      refine if_pos ?_
      rw [← present_iff] at h
      simpa [or_iff_not_imp_left] using h
    have hroster : heardRoster s p stamp = s.member.roster := by
      refine Vector.ext fun i hi => ?_
      rw [heardRoster, Vector.getElem_ofFn, if_neg]
      · rfl
      · rintro ⟨rfl, hc⟩
        exact h hc
    rw [hsame, hroster]

/-- A usable ADMIT whose sender has not left moves the joiner to CATCHUP, and its sender is heard in the roster it brings (R116, R86). -/
theorem joinerAdmitted_eq {s : State} {a : Attempt} {d : Delivered} (capture : Word16) (parts : Byte) {states : BitVec 32}
    (hleft : a.hasLeft d.sender = false) (hbad : s.badRosterStates states = false) :
    s.joinerAdmitted a d capture parts states = { s with member := { s.member with
      state := .catchup
      attempt := some { a with phase := .collecting, admission := some { admitter := d.sender, capture := capture, parts := parts.toNat, next := 0 } }
      roster := Vector.ofFn (fun x : Station => { RosterEntry.clear with
        state := if rosterCodeAt states x = 2 then .online else if rosterCodeAt states x = 1 then .joining else .absent
        incarnation := if x = s.me then s.member.incarnation else none
        lastHeard := if x = d.sender ∧ x ≠ s.me ∧ rosterCodeAt states x ≠ 0 then some d.stamp else none })
      rosterLive := true
      admission := some { joiner := s.me, incarnation := s.incarnation, admitter := d.sender, capture := capture }
      snapshot := .rebuild { table := Vector.replicate 64 SnapEntry.clear, last := none } } } := by
  have husable (x : Station) : rosterCodeAt states x ≠ 3 := fun h3 => by
    have := (badRosterStates_iff s states).mpr (.inl ⟨x, h3⟩)
    rw [hbad] at this; cases this
  let u : State := { s with member := { s.member with
    state := .catchup
    attempt := some { a with phase := .collecting, admission := some { admitter := d.sender, capture := capture, parts := parts.toNat, next := 0 } }
    roster := s.loadRoster states
    rosterLive := true
    admission := some { joiner := s.me, incarnation := s.incarnation, admitter := d.sender, capture := capture }
    snapshot := .rebuild { table := Vector.replicate 64 SnapEntry.clear, last := none } } }
  have hentry (x : Station) : u.member.roster[x] = { RosterEntry.clear with
      state := (RosterState.ofCode (rosterCodeAt states x)).getD .absent
      incarnation := if x = s.me then s.member.incarnation else none } := by
    simp [u, State.loadRoster]
  have hroster : heardRoster u d.sender d.stamp = Vector.ofFn (fun x : Station => { RosterEntry.clear with
      state := if rosterCodeAt states x = 2 then .online else if rosterCodeAt states x = 1 then .joining else .absent
      incarnation := if x = s.me then s.member.incarnation else none
      lastHeard := if x = d.sender ∧ x ≠ s.me ∧ rosterCodeAt states x ≠ 0 then some d.stamp else none }) := by
    refine congrArg Vector.ofFn (funext fun x => ?_)
    have habsent := rosterState_ofCode_absent_iff (rosterCodeAt states x) (husable x)
    have hme : u.me = s.me := rfl
    rw [rosterState_ofCode_getD] at habsent
    simp only [hentry, rosterState_ofCode_getD, hme, ne_eq, habsent]
    by_cases hx : x = d.sender ∧ ¬ x = s.me ∧ ¬ rosterCodeAt states x = 0
    · rw [if_pos hx, if_pos hx]
    · rw [if_neg hx, if_neg hx]
      rfl
  have hjoined : s.joinerAdmitted a d capture parts states = u.renewPresence d.sender d.stamp := by
    simp only [State.joinerAdmitted, hleft, hbad, Bool.false_eq_true, if_false]
    rfl
  rw [hjoined, renewPresence_not_online (s := u) d.stamp nofun (by rw [State.peer, hentry]; rfl), hroster]

/-- The reasons of a DECLINE (R115, R194): BUSY sets the backoff, MISMATCH and DUPLICATE give the join up, any other does nothing. -/
theorem joinerDeclined_busy (s : State) :
    s.joinerDeclined 1 = { s with
      host := s.host.raise (s.joinRetry detailBusy)
      member := { s.member with attempt := none, joinTimer := none, backoff := some (s.now + s.backoffSpan) } } := rfl

theorem joinerDeclined_mismatch (s : State) : s.joinerDeclined 2 = s.joinFails detailMismatch := rfl

theorem joinerDeclined_duplicate (s : State) : s.joinerDeclined 3 = s.joinFails detailDuplicate := rfl

theorem joinerDeclined_other {s : State} {reason : Byte} (h1 : reason ≠ 1) (h2 : reason ≠ 2) (h3 : reason ≠ 3) : s.joinerDeclined reason = s :=
  (if_neg h1).trans ((if_neg h2).trans (if_neg h3))

/-- An ADMIT for this station in phase AWAITING (R116). -/
theorem exec_admitFrame {s t : State} {p : Station} {capture : Word16} {parts : Byte} {states : BitVec 32} {stamp : Tick} {rest : List Delivered}
    {a : Attempt}
    (hd : s.line.delivery =
      { sender := p, frame := .admitJoiner s.me (s.member.incarnation.getD 0) capture parts states, stamp := stamp, own := false } :: rest)
    (hst : s.member.state = .joining) (ha : s.member.attempt = some a) (hph : a.phase = .awaiting)
    (ht : (State.setAttempt { s with line := { s.line with delivery := rest } } (counted a)).joinerAdmitted (counted a)
      { sender := p, frame := .admitJoiner s.me (s.member.incarnation.getD 0) capture parts states, stamp := stamp, own := false }
      capture parts states = t) : exec .admitFrame s = .next t := by
  refine exec_joining hd rfl nofun hst ha hph (fun _ => rfl) ((if_pos ?_).trans ht)
  simp [hph, State.incarnation, State.setAttempt, State.me, State.cfg]

/-- Settles O49: the ADMIT by what it brings, the DECLINE by its reason. -/
theorem awaitingJoinerIsAdmittedOrDeclined : Obligations.AwaitingJoinerIsAdmittedOrDeclined := by
  refine ⟨fun s rest p capture parts states stamp a hd hst ha hph => ?_, fun s rest p capture parts states stamp a hd hst ha hph => ?_,
    fun s rest p reason stamp a hd hst ha hph => ?_⟩
  · intro hstays code husable hme
    let u : State := State.setAttempt { s with line := { s.line with delivery := rest } } (counted a)
    have hcode : rosterCodeAt states = code := funext (rosterCodeAt_eq states)
    have hleft : (counted a).hasLeft p = false := by
      rw [Bool.eq_false_iff, ne_eq, hasLeft_iff]
      rintro ⟨d, hmem, h⟩
      obtain ⟨hdepart, hquit⟩ := hstays d hmem
      exact h.elim hdepart hquit
    have hbad : u.badRosterStates states = false := by
      rw [Bool.eq_false_iff, ne_eq, badRosterStates_iff, hcode]
      rintro (⟨x, hx⟩ | hx)
      · exact husable x hx
      · exact hx hme
    refine exec_admitFrame hd hst ha hph ((joinerAdmitted_eq (s := u) capture parts hleft hbad).trans ?_)
    rw [hcode]
    rfl
  · intro code gone counted'
    let u : State := State.setAttempt { s with line := { s.line with delivery := rest } } (counted a)
    have hcode : rosterCodeAt states = code := funext (rosterCodeAt_eq states)
    have hleft : (counted a).hasLeft p = true ↔ gone := hasLeft_iff _ p
    refine ⟨fun hgone => ?_, fun hgone hbad => ?_⟩
    · exact exec_admitFrame hd hst ha hph (if_pos (hleft.mpr hgone))
    · have hbad' : u.badRosterStates states = true := by rwa [badRosterStates_iff, hcode]
      exact exec_admitFrame hd hst ha hph ((if_neg (mt hleft.mp hgone)).trans (if_pos hbad'))
  · intro retry failed taken
    let u : State := taken.setAttempt (counted a)
    have hexec (t : State) (ht : u.joinerDeclined reason = t) : exec .declineFrame s = .next t := by
      refine exec_joining hd rfl nofun hst ha hph (fun _ => rfl) ((if_pos ?_).trans ht)
      simp [hph, State.incarnation, State.setAttempt, State.me, State.cfg]
    have hclear (ev : EventRecord) : u.stationClear ev = taken.stationClear ev :=
      stationClear_congr taken ev taken.member.own (some (counted a)) taken.tx.awaiting
    refine ⟨?_, ?_, ?_, fun h1 h2 h3 => ?_⟩
    · rintro rfl
      exact hexec _ (joinerDeclined_busy u)
    · rintro rfl
      exact hexec _ ((joinerDeclined_mismatch u).trans (hclear _))
    · rintro rfl
      exact hexec _ ((joinerDeclined_duplicate u).trans (hclear _))
    · exact hexec _ (joinerDeclined_other h1 h2 h3)

/-! ## The own frame vetoed (R134, R137, R154, R155, R160) -/

/-- The line after a dominant window: the levels counted, the end field ahead, the veto counts given (R148, R156, R160, R161). -/
def vetoedLine (l : LineController) (levels : List Level) (drove : Bool) (own issued : Nat) : LineController :=
  { l.endField levels drove with ownVetoes := own, issuedVetoes := issued }

section
variable {before after : List TxEntry} {e : TxEntry} {q : TransmitQueue}

/-- The queue with the frame that flew back at its place (R134). -/
def keptQueue (q : TransmitQueue) (before after : List TxEntry) (e : TxEntry) : TransmitQueue :=
  { q with entries := before ++ { e with inFlight := false, returnNotice := false } :: after }

/-- A vetoed frame that is neither marked withdrawn nor an orphan stays at its place (R134, R137). -/
theorem lose_kept (hq : q.entries = before ++ e :: after) (hothers : ∀ x ∈ before ++ after, x.inFlight = false) (hfly : e.inFlight = true)
    (hw : e.withdrawn = false) (ho : e.orphan = false) :
    q.lose = (if e.returnNotice then .returned else .retry, keptQueue q before after e) := by
  have hmap := map_ite_eq (fun x => x.inFlight) (fun x => { x with inFlight := false, returnNotice := false }) hfly hothers
  simp only [TransmitQueue.lose, flying?_eq_some hq hfly hothers, ho, hw, Bool.false_eq_true, if_false, hq, hmap, keptQueue]

variable {s : State} (hq : s.tx.entries = before ++ e :: after) (hothers : ∀ x ∈ before ++ after, x.inFlight = false) (hfly : e.inFlight = true)
  (hw : e.withdrawn = false) (ho : e.orphan = false)
include hq hothers hfly hw ho

/-- An attempt lost without a return notice: the frame waits again (R134). -/
theorem attemptLost_retry (hn : e.returnNotice = false) : s.attemptLost = { s with tx := keptQueue s.tx before after e } := by
  simp only [State.attemptLost, lose_kept hq hothers hfly hw ho, hn, Bool.false_eq_true, if_false]

/-- A BEACON lost with a return notice is refreshed at its place (R83, R137). -/
theorem attemptLost_returned {b : BeaconBody} (hn : e.returnNotice = true) (hb : e.frame = .beacon b)
    (hbeacons : ∀ x ∈ before ++ after, x.orphan = false → x.frame.id ≠ .beacon) :
    s.attemptLost = { s with
      tx := { s.tx with entries := before ++ { e with
        inFlight := false, returnNotice := false, frame := .beacon { b with number := s.member.beaconCounter, digest := s.digest } } :: after }
      member := { s.member with beaconPending := false } } := by
  have hrefresh := refresh_waiting (q := keptQueue s.tx before after e) (e := { e with inFlight := false, returnNotice := false })
    rfl hb ho hbeacons rfl s.member.beaconCounter s.digest
  have hlost : s.attemptLost = State.beaconReturned { s with tx := keptQueue s.tx before after e } := by
    simp only [State.attemptLost, lose_kept hq hothers hfly hw ho, hn, if_true]
  have hdigest : State.digest { s with tx := keptQueue s.tx before after e } = s.digest := rfl
  rw [hlost]
  simp only [State.beaconReturned, hdigest, hrefresh]
  rfl

end

theorem orphanFlying_eq_false {s : State} {e : TxEntry} (hfly : s.tx.flying? = some e) (ho : e.orphan = false) : s.orphanFlying = false := by
  simp only [State.orphanFlying, hfly, ho]

/-- With no rate held back an attempt's end leaves the line as it is (R147). -/
theorem settleRate_eq {s : State} (h : s.line.rateChange = false) : s.settleRate = s := by simp [State.settleRate, h]

/-- A sender whose key held reads its window dominant (R152, R155). -/
theorem exec_frameVetoed_sender {s : State} {levels toSend : List Level} {stamp : Tick} {rx : Rx} {w1 w2 : Level} (hw : ¬ (w1 = true ∧ w2 = true))
    (hd : s.line.decode = some { role := .sender toSend, stamp := stamp, rx := rx }) (hlen : levels.length = toSend.length)
    (hkey : ∀ k : Nat, toSend[k]? = some true → levels[k]? = some false → 7 ≤ ((toSend.take k).foldl Rx.feed rx).bits.length) :
    exec (.frameVetoed ⟨levels, w1, w2⟩) s = .next (s.ownVetoed (levels ++ [w1, w2]) (levels != toSend)) := by
  have hheld : keyHeld rx toSend levels = true := (keyHeld_iff rx toSend levels).mpr fun k _ => hkey k
  have hwindow : (w1 && w2) = false := by rw [Bool.eq_false_iff]; simpa using hw
  simp [exec, execFrameVetoed, hwindow, State.vetoFrame, hd, hlen, hheld]

/-- A receiver whose decode ends at the window reads it dominant (R155). -/
theorem exec_frameVetoed_receiver {s : State} {levels : List Level} {d : FrameDecode} {rx : Rx} {w1 w2 : Level} (hw : ¬ (w1 = true ∧ w2 = true))
    (hd : s.line.decode = some d) (hrole : d.role = .receiver) (hfeed : d.rx.feedAll levels = some rx) (hdone : rx.bodyDone = true)
    (hlost : rx.lost = false) :
    exec (.frameVetoed ⟨levels, w1, w2⟩) s = .next (s.otherVetoed (levels ++ [w1, w2]) rx.fault.isSome) := by
  have hclose : d.atClose levels = some rx := by simp [FrameDecode.atClose, hfeed, Rx.closed, hdone, hlost]
  have hwindow : (w1 && w2) = false := by rw [Bool.eq_false_iff]; simpa using hw
  simp only [exec, execFrameVetoed, hwindow, Bool.false_eq_true, if_false, State.vetoFrame, hd, hrole, hclose]

/-- The own frame's veto with its count advanced: the attempt ends, then the count may mute (R160). -/
theorem ownVetoed_eq {s t : State} {levels : List Level} {misread : Bool} (hoffers : s.member.state.offers = true) (horphan : s.orphanFlying = false)
    (ht : State.attemptLost { s with line := vetoedLine s.line levels misread (s.line.ownVetoes + 1) s.line.issuedVetoes } = t) :
    s.ownVetoed levels misread = (t.muteOnOwn true).settleRate := by
  subst ht
  simp only [State.ownVetoed, hoffers, horphan, Bool.and_true, Bool.not_false, State.countOwnVeto, if_true]
  rfl

/-- Another station's frame vetoed: the count is advanced where this station drove the veto, and then may mute (R154, R161). -/
theorem otherVetoed_eq {s : State} {faulty drove : Bool} (levels : List Level) (h : (faulty && s.member.state.offers) = drove) :
    s.otherVetoed levels faulty = State.muteOnIssued { s with
      line := vetoedLine s.line levels drove s.line.ownVetoes (if drove = true then s.line.issuedVetoes + 1 else s.line.issuedVetoes) } drove := by
  simp only [State.otherVetoed, State.countIssuedVeto, h]
  cases drove <;> rfl

/-- Below its threshold a count mutes nobody (R160, R161). -/
theorem muteOnOwn_below {s : State} (h : s.line.ownVetoes ≠ 16) (counted : Bool) : s.muteOnOwn counted = s := by
  simp [State.muteOnOwn, Config.ownVetoThreshold, h]

theorem muteOnIssued_below {s : State} (h : s.line.issuedVetoes ≠ 32) (counted : Bool) : s.muteOnIssued counted = s := by
  simp [State.muteOnIssued, Config.issuedVetoThreshold, h]

/-- Settles O29: below the thresholds a veto leaves the frame queued, or discards another station's. -/
theorem vetoedFrameIsKeptOrDiscarded : Obligations.VetoedFrameIsKeptOrDiscarded := by
  intro s levels w1 w2 hw ended
  refine ⟨fun toSend stamp rx before after e hd hlen hq hothers hfly hwd ho hrate hoffers hcount hkey => ?_,
    fun toSend stamp rx k hd hk hsent hread hinkey => ?_, fun d rx hd hrole hfeed hdone hlost hcount => ?_⟩
  · intro line
    let u : State := { s with line := line }
    have hexec (t : State) (ht : u.attemptLost = t) (hl : t.line = line) : exec (.frameVetoed ⟨levels, w1, w2⟩) s = .next t := by
      have hbelow : t.line.ownVetoes ≠ 16 := by rw [hl]; exact (Nat.succ_lt_succ hcount).ne
      have horphan := orphanFlying_eq_false (flying?_eq_some hq hfly hothers) ho
      have hvetoed : s.ownVetoed (levels ++ [w1, w2]) (levels != toSend) = (t.muteOnOwn true).settleRate := ownVetoed_eq hoffers horphan ht
      rw [exec_frameVetoed_sender hw hd hlen hkey, hvetoed, muteOnOwn_below hbelow, settleRate_eq (by rw [hl]; exact hrate)]
    refine ⟨fun hn => ?_, fun b hn hb hbeacons => ?_⟩
    · refine (hexec _ (attemptLost_retry (s := u) hq hothers hfly hwd ho hn) rfl).trans ?_
      rw [keptQueue, ← hn]
    · exact hexec _ (attemptLost_returned (s := u) hq hothers hfly hwd ho hn hb hbeacons) rfl
  · have hlostKey : keyHeld rx toSend levels = false := by
      rw [Bool.eq_false_iff, ne_eq, keyHeld_iff]
      exact fun h => absurd (h k hk hsent hread) (Nat.not_le.mpr hinkey)
    simp [exec, execFrameVetoed, State.vetoFrame, hd, hlostKey]
  · intro drove
    have hbelow : (if drove = true then s.line.issuedVetoes + 1 else s.line.issuedVetoes) ≠ 32 := by split <;> omega
    rw [exec_frameVetoed_receiver hw hd hrole hfeed hdone hlost, otherVetoed_eq (drove := drove) _ rfl, muteOnIssued_below hbelow]
    rfl

/-! ## The thresholds (R160, R161, R162, R127) -/

/-- MUTED, with the line sequence number of a live replica (R162). -/
def mutedEvent (s : State) (detail : Byte) (threshold : Nat) : EventRecord :=
  { kind := .muted, tag := 0, subject := stationByte s.me, grant := if s.replica.live then s.replica.seq else 0, detail := detail,
    count := BitVec.ofNat 8 threshold }

/-- The Membership Unit once the station has become MUTE (R127): from ONLINE and FOUNDING it keeps roster, admission and Snapshot Buffer. -/
def mutedMember (m : Membership) : Membership :=
  let stays := m.state = .online ∨ m.state = .founding
  { m with
    state := .mute, attempt := none, abandoning := false, listenWindow := none, foundingPeriod := none, joinTimer := none
    backoff := none, beaconDeadline := none, beaconPending := false
    departEvicts := (m.state = .online ∨ m.state = .founding ∨ m.state = .catchup ∨ (m.state = .joining ∧ m.attempt.isSome = true) : Bool)
    roster := m.roster.map (fun x => if stays then { x with presence := none } else { RosterEntry.clear with incarnation := x.incarnation })
    rosterLive := if stays then m.rosterLive else false
    admission := if stays then m.admission else none
    snapshot := if stays then m.snapshot else .empty }

/-- A leave that meets a threshold ends with LEFT, after MUTED (R125, R162). -/
theorem enterMute_leaving {s : State} (detail : Byte) (threshold : Nat) (h : s.member.state = .leaving) :
    s.enterMute detail threshold = State.stationClear { s with host := s.host.raise (mutedEvent s detail threshold) }
      { kind := .left, tag := s.member.leaveTag.getD 0, subject := stationByte s.me, grant := 0, detail := 0, count := s.busyCount } := by
  simp only [State.enterMute, h]
  rfl

/-- The beacon schedule stopped and every presence deadline removed (R82, R87). -/
theorem stopBeacons_clearPresence (s : State) :
    s.stopBeacons.clearPresence = { s with
      tx := (s.tx.withdraw .beacon).2
      member := { s.member with
        beaconDeadline := none, beaconPending := false, roster := s.member.roster.map (fun e => { e with presence := none }) } } := rfl

/-- In the other states that veto the station becomes MUTE, after MUTED (R127, R162). -/
theorem enterMute_mute {s : State} (detail : Byte) (threshold : Nat) (hoffers : s.member.state.offers = true) (hne : s.member.state ≠ .leaving) :
    s.enterMute detail threshold = { s with
      host := s.host.raise (mutedEvent s detail threshold)
      tx := (s.tx.withdraw .beacon).2
      member := mutedMember s.member } := by
  have hevicts : (mutedMember s.member).departEvicts = s.evictable := by
    cases h : s.member.state with
    | leaving => exact absurd h hne
    | unconfigured | offline | mute => simp [h, StationState.offers] at hoffers
    | online | founding | listen | joining | catchup => simp [mutedMember, State.evictable, h]
  have hdiscards (h : s.member.state ≠ .online ∧ s.member.state ≠ .founding) : mutedMember s.member = { mutedMember s.member with
      departEvicts := s.evictable
      roster := (s.member.roster.map (fun e => { e with presence := none })).map RosterEntry.discard } := by
    have hroster : (mutedMember s.member).roster = (s.member.roster.map (fun e => { e with presence := none })).map RosterEntry.discard := by
      simp only [mutedMember, h, or_self, if_false, Vector.map_map]
      rfl
    rw [← hroster, ← hevicts]
  cases h : s.member.state with
  | online | founding =>
    simp only [State.enterMute, mutedMember, State.evictable, h]
    rfl
  | listen | joining | catchup =>
    rw [hdiscards (by simp [h])]
    simp only [State.enterMute, mutedMember, h, beq_iff_eq, Bool.or_eq_true, reduceCtorEq, or_self, if_false, stopBeacons_clearPresence]
    rfl
  | leaving => exact absurd h hne
  | unconfigured | offline | mute => simp [h, StationState.offers] at hoffers

/-- The advance to a threshold mutes the station (R160, R161). -/
theorem muteOnOwn_at {s : State} (h : s.line.ownVetoes = 16) (hoffers : s.member.state.offers = true) : s.muteOnOwn true = s.enterMute 1 16 := by
  simp [State.muteOnOwn, Config.ownVetoThreshold, h, hoffers, detailOwnVetoes]

theorem muteOnIssued_at {s : State} (h : s.line.issuedVetoes = 32) (hoffers : s.member.state.offers = true) :
    s.muteOnIssued true = s.enterMute 2 32 := by
  simp [State.muteOnIssued, Config.issuedVetoThreshold, h, hoffers, detailIssuedVetoes]

/-- Muting touches no rate that is held back (R147, R162). -/
theorem enterMute_rateChange {s : State} (detail : Byte) (threshold : Nat) (hoffers : s.member.state.offers = true) :
    (s.enterMute detail threshold).line.rateChange = s.line.rateChange := by
  by_cases h : s.member.state = .leaving
  · rw [enterMute_leaving detail threshold h, stationClear_eq]
  · rw [enterMute_mute detail threshold hoffers h]

/-- Seven recessive bits in a row in a state that may veto (R157, R161). -/
theorem exec_missedFrame_lost {s : State} {levels : List Level} {d : FrameDecode} {rx : Rx} (hd : s.line.decode = some d)
    (hrole : d.role = .receiver) (hfeed : d.rx.feedAll levels = some rx) (hlost : 7 ≤ rx.recessive) (hoffers : s.member.state.offers = true) :
    exec (.missedFrame levels) s = .next (State.muteOnIssued { s with line := { s.line with
      phase := .seekingIdle, decode := none, recessiveRun := countRun s.line.recessiveRun levels, vetoDriven := false
      issuedVetoes := s.line.issuedVetoes + 1 } } true) := by
  have hl : rx.lost = true := decide_eq_true hlost
  simp only [exec, execMissedFrame, State.missFrame, hd, hrole, hfeed, hl, if_true, State.missInBody, hoffers, State.countIssuedVeto]

/-- Settles O30: the count reaches its threshold, and the station enters MUTE or leaves. -/
theorem vetoThresholdsMute : Obligations.VetoThresholdsMute := by
  intro s levels run told muted hoffers hrate
  have hmutes (line : LineController) (tx : TransmitQueue) (detail : Byte) (threshold : Nat) :
      .next (State.enterMute { s with line := line, tx := tx } detail threshold) = muted line tx detail threshold := by
    by_cases h : s.member.state = .leaving
    · exact (congrArg Host.Outcome.next (enterMute_leaving (s := { s with line := line, tx := tx }) detail threshold h)).trans (if_pos h).symm
    · exact (congrArg Host.Outcome.next (enterMute_mute (s := { s with line := line, tx := tx }) detail threshold hoffers h)).trans (if_neg h).symm
  refine ⟨fun toSend stamp rx before after e w1 w2 hw hd hlen hq hothers hfly hwd ho hn hcount hkey => ?_,
    fun d rx hd hrole hfeed hcount => ⟨fun w1 w2 hw hdone hlost hfault => ?_, fun hlost => ?_⟩⟩
  · let line := vetoedLine s.line (levels ++ [w1, w2]) (levels != toSend) 16 s.line.issuedVetoes
    let u : State := { s with line := line }
    let t : State := { u with tx := keptQueue s.tx before after e }
    have horphan := orphanFlying_eq_false (flying?_eq_some hq hfly hothers) ho
    have hlost : u.attemptLost = t := attemptLost_retry (s := u) hq hothers hfly hwd ho hn
    have hvetoed : s.ownVetoed (levels ++ [w1, w2]) (levels != toSend) = (t.muteOnOwn true).settleRate :=
      ownVetoed_eq hoffers horphan (by rw [hcount]; exact hlost)
    have hkept : keptQueue s.tx before after e = { s.tx with entries := before ++ { e with inFlight := false } :: after } := by
      rw [keptQueue, ← hn]
    have hsettled : (t.enterMute 1 16).settleRate = t.enterMute 1 16 := settleRate_eq ((enterMute_rateChange (s := t) 1 16 hoffers).trans hrate)
    rw [exec_frameVetoed_sender hw hd hlen hkey, hvetoed, muteOnOwn_at (s := t) rfl hoffers, hsettled, ← hkept]
    exact hmutes line _ 1 16
  · have hdrove : (rx.fault.isSome && s.member.state.offers) = true := by rw [hfault, hoffers]; rfl
    let u : State := { s with line := vetoedLine s.line (levels ++ [w1, w2]) true s.line.ownVetoes 32 }
    have hvetoed : s.otherVetoed (levels ++ [w1, w2]) rx.fault.isSome = u.enterMute 2 32 := by
      rw [otherVetoed_eq _ hdrove, if_pos rfl, hcount]
      exact muteOnIssued_at (s := u) rfl hoffers
    rw [exec_frameVetoed_receiver hw hd hrole hfeed hdone hlost, hvetoed]
    exact hmutes _ s.tx 2 32
  · rw [exec_missedFrame_lost hd hrole hfeed hlost hoffers, hcount]
    let line : LineController := { s.line with
      phase := .seekingIdle, decode := none, recessiveRun := countRun s.line.recessiveRun levels, vetoDriven := false, issuedVetoes := 32 }
    exact (congrArg Host.Outcome.next (muteOnIssued_at (s := { s with line := line }) rfl hoffers)).trans (hmutes line s.tx 2 32)

/-! ## The line sequence number within an application (R7, R28) -/

theorem removeHolder_seq (rep : Replica) (r : ResNo) (p : Station) : (rep.removeHolder r p).seq = rep.seq := by simp [Replica.removeHolder]

theorem removeWaiter_seq (rep : Replica) (r : ResNo) (p : Station) : (rep.removeWaiter r p).seq = rep.seq := by simp [Replica.removeWaiter]

section
variable (x : LeaseContext) (p : Station) (online : Bool) (r : ResNo) (rep : Replica)

theorem endHolding_seq (h : Holder) (reports : List Report) : (x.endHolding r h reports rep).replica.seq = rep.seq := by
  simp [LeaseContext.endHolding, removeHolder_seq]

theorem applyClaim_seq (noWait : Bool) (mode : BitVec 2) (term : Word16) :
    (x.applyClaim p online r noWait mode term rep).replica.seq = rep.seq := by
  unfold LeaseContext.applyClaim
  split
  · rfl
  · split
    · rfl
    · simp only
      split_ifs
      · rfl
      · simp [LeaseContext.claimGranted]
      · rfl
      · simp [LeaseContext.claimQueued]

theorem applyDrop_seq (grant : Word16) : (x.applyDrop p online r grant rep).replica.seq = rep.seq := by
  unfold LeaseContext.applyDrop
  split
  · rfl
  · split
    · split
      · exact endHolding_seq x r rep _ _
      · rfl
    · rfl

theorem applyExtend_seq (grant term : Word16) : (x.applyExtend p online r grant term rep).replica.seq = rep.seq := by
  unfold LeaseContext.applyExtend
  split
  · rfl
  · simp only
    split
    · split
      · exact Replica.setEntry_seq _ _ _
      · rfl
    · rfl

theorem applyWithdraw_seq : (x.applyWithdraw p online r rep).replica.seq = rep.seq := by
  unfold LeaseContext.applyWithdraw
  split
  · rfl
  · simp only
    split
    · simp [removeWaiter_seq]
    · exact endHolding_seq x r rep _ _
    · rfl

theorem applyRevoke_seq (own : Bool) (holder : Station) (grant : Word16) :
    (x.applyRevoke p online own r holder grant rep).replica.seq = rep.seq := by
  unfold LeaseContext.applyRevoke
  split
  · rfl
  · split
    · split
      · simp only
        split <;> simp only [endHolding_seq]
      · rfl
    · rfl

theorem passes_seq (rs : List Nat) : (x.passes rs rep).1.seq = rep.seq := by
  induction rs generalizing rep with
  | nil => rfl
  | cons r rs ih => simp [LeaseContext.passes, ih]

theorem applyDeparture_seq : (x.applyDeparture p rep).replica.seq = rep.seq := passes_seq x _ _

end

theorem takeLease_replica (s : State) (out : LeaseResult) : (s.takeLease out).replica = out.replica := by simp [State.takeLease]

theorem queueRevokes_seq (s : State) (l : List (Nat × Holder)) : (s.queueRevokes l).replica.seq = s.replica.seq := by
  induction l generalizing s with
  | nil => rfl
  | cons x l ih =>
    obtain ⟨r, h⟩ := x
    simp only [State.queueRevokes]
    split
    · rw [ih]; simp
    · rfl

theorem serviceRevocations_seq (s : State) : s.serviceRevocations.replica.seq = s.replica.seq := by
  unfold State.serviceRevocations
  split
  · exact queueRevokes_seq s _
  · rfl

theorem peerGone_seq (s : State) (d : Delivered) (p : Station) (detail : Byte) (replay : Bool) :
    (s.peerGone d p detail replay).replica.seq = s.replica.seq := by
  simp only [State.peerGone, takeLease_replica, applyDeparture_seq]
  split <;> simp

/-! ## The replay of a frame (R119, R81) -/

/-- A state with another Host Port. -/
def withHost (s : State) (h : HostPort) : State := { s with host := h }

theorem withHost_self {s : State} {h : HostPort} (hh : s.host = h) : withHost s h = s := by subst hh; rfl

theorem withHost_withHost (s : State) (h h' : HostPort) : withHost (withHost s h) h' = withHost s h' := rfl

section
variable (s : State) (h : HostPort)

theorem withdrawAll_withHost (ids : List FrameId) : (withHost s h).withdrawAll ids = withHost (s.withdrawAll ids) h := by
  induction ids generalizing s with
  | nil => rfl
  | cons id ids ih => exact ih (s.withdrawFrame id).2

theorem askDepart_withHost (p : Station) : (withHost s h).askDepart p = withHost (s.askDepart p) h := by
  unfold State.askDepart
  simp only [State.withdrawFrame, withHost]
  cases (s.tx.withdraw (.depart p)).1 <;> rfl

theorem withdrawDepart_withHost (p : Station) : (withHost s h).withdrawDepart p = withHost (s.withdrawDepart p) h := by
  unfold State.withdrawDepart
  rw [askDepart_withHost]
  exact (apply_ite (withHost · h) _ _ _).symm

theorem settleDepart_withHost (d : Delivered) (p : Station) : (withHost s h).settleDepart d p = withHost (s.settleDepart d p) h := by
  simp only [State.settleDepart, askDepart_withHost]
  cases d.own <;> rfl

theorem queueRevokes_withHost (l : List (Nat × Holder)) : (withHost s h).queueRevokes l = withHost (s.queueRevokes l) h := by
  induction l generalizing s with
  | nil => rfl
  | cons x l ih =>
    obtain ⟨r, e⟩ := x
    have htx : (withHost s h).tx = s.tx := rfl
    simp only [State.queueRevokes, htx]
    split
    · exact ih { s with tx := (s.tx.insert (.revoke (BitVec.ofNat 8 r) e.station e.grant)).2, replica := s.replica.setRevocation r e.station .queued }
    · rfl

theorem serviceRevocations_withHost : (withHost s h).serviceRevocations = withHost s.serviceRevocations h := by
  unfold State.serviceRevocations
  rw [queueRevokes_withHost]
  exact (apply_ite (withHost · h) _ _ _).symm

end

section
variable {s : State} (hempty : ∀ i : Fin 8, (s.claims[i]).state = .empty)
include hempty

/-- With no slot in use no report finds one (R9, R35). -/
theorem claimReports_of_empty (reps : List Report) : s.claimReports reps = s := by
  have hone (rep : Report) : s.claimReport rep = s := by
    have hnone : s.findSlot rep.resource = none := List.find?_eq_none.mpr fun i _ => by
      simp [show (s.slot i).state = .empty from hempty i]
    simp only [State.claimReport, hnone]
  induction reps with
  | nil => rfl
  | cons rep reps ih => rwa [State.claimReports, List.foldl_cons, hone]

/-- With no slot in use a lease result reaches the replica and the Transmit Queue alone. -/
theorem takeLease_of_empty (out : LeaseResult) : s.takeLease out = State.withdrawAll { s with replica := out.replica } out.withdrawals := by
  rw [State.takeLease, claimReports_of_empty (s := { s with replica := out.replica }) hempty]

theorem takeLease_host (out : LeaseResult) : (s.takeLease out).host = s.host := by simp [takeLease_of_empty hempty]

theorem takeLease_withHost (h : HostPort) (out : LeaseResult) : (withHost s h).takeLease out = withHost (s.takeLease out) h := by
  rw [takeLease_of_empty (s := withHost s h) hempty, takeLease_of_empty hempty, ← withdrawAll_withHost]
  rfl

/-- The replay of a departure differs in the PEER_LEFT alone (R81). -/
theorem peerGone_replay (d : Delivered) (p : Station) (detail : Byte) :
    s.peerGone d p detail true = withHost (s.peerGone d p detail false) s.host := by
  let gone := (s.setPeer p (s.peer p).depart).closeAdmission p
  have hgone : ∀ i : Fin 8, (gone.claims[i]).state = .empty := by simpa [gone] using hempty
  have hhost : gone.host = s.host := by simp [gone]
  let out := (gone.leaseContext d.stamp).applyDeparture p gone.replica
  have htrue : s.peerGone d p detail true = gone.takeLease out := by
    simp only [State.peerGone, Bool.not_true, Bool.and_false, Bool.false_eq_true, if_false]
    rfl
  have hfalse : ∃ h, s.peerGone d p detail false = (withHost gone h).takeLease out := by
    simp only [State.peerGone, Bool.not_false, Bool.and_true]
    split
    · exact ⟨gone.host.answer (gone.peerLeft p detail), rfl⟩
    · exact ⟨gone.host, rfl⟩
  obtain ⟨h, hfalse⟩ := hfalse
  rw [htrue, hfalse, takeLease_withHost hgone, withHost_withHost, withHost_self]
  rw [takeLease_host hgone, hhost]

end

/-- The effects of a frame in the replay: those it has live, but for the Host Port, with the sequence number standing. -/
structure ReplaysTo (s t live : State) : Prop where
  effects : t = withHost live s.host
  seq : t.replica.seq = s.replica.seq

/-- Effects that place nothing are replayed as they are. -/
theorem ReplaysTo.of_host {s t : State} (hhost : t.host = s.host) (hseq : t.replica.seq = s.replica.seq) : ReplaysTo s t t :=
  ⟨(withHost_self hhost).symm, hseq⟩

section
variable {s : State} (hempty : ∀ i : Fin 8, (s.claims[i]).state = .empty) {d : Delivered} (ho : d.own = false)
include hempty

theorem takeLease_replays {out : LeaseResult} (hseq : out.replica.seq = s.replica.seq) : ReplaysTo s (s.takeLease out) (s.takeLease out) :=
  .of_host (takeLease_host hempty out) (by rw [takeLease_replica, hseq])

theorem liveDepart_replays (p : Station) : ReplaysTo s (s.liveDepart d p true) (s.liveDepart d p false) := by
  unfold State.liveDepart
  split
  · exact .of_host rfl rfl
  · split
    · refine ⟨?_, ?_⟩
      · rw [peerGone_replay hempty, settleDepart_withHost]
      · simp [peerGone_seq]
    · exact .of_host (by simp [State.countStale]) (by simp [State.countStale, Replica.countStale])

include ho

theorem liveQuit_replays : ReplaysTo s (s.liveQuit d true) (s.liveQuit d false) := by
  unfold State.liveQuit State.ownQuit State.peerQuit
  split
  · simp only [ho, Bool.not_false, if_true]
    exact .of_host rfl rfl
  · split
    · refine ⟨?_, ?_⟩
      · rw [peerGone_replay hempty, withdrawDepart_withHost]
      · simp [peerGone_seq]
    · exact .of_host rfl rfl

/-- The kinds that the Catch-up Queue stores (R114). -/
def Stored (k : FrameKind) : Prop :=
  k = .claim ∨ k = .drop ∨ k = .extend ∨ k = .withdraw ∨ k = .revoke ∨ k = .quit ∨ k = .depart ∨ k = .found ∨ k = .apply

theorem liveEffects_replays (hk : Stored d.frame.kind) : ReplaysTo s (s.liveEffects d true) (s.liveEffects d false) := by
  unfold State.liveEffects
  cases hf : d.frame with
  | claim r noWait mode term => exact takeLease_replays hempty (applyClaim_seq _ _ _ _ _ _ _ _)
  | drop r grant => exact takeLease_replays hempty (applyDrop_seq _ _ _ _ _ _)
  | extend r grant term => exact takeLease_replays hempty (applyExtend_seq _ _ _ _ _ _ _)
  | withdraw r => exact takeLease_replays hempty (applyWithdraw_seq _ _ _ _ _)
  | revoke r holder grant => exact takeLease_replays hempty (applyRevoke_seq _ _ _ _ _ _ _ _)
  | quit => exact liveQuit_replays hempty ho
  | depart p => exact liveDepart_replays hempty p
  | found => exact .of_host rfl rfl
  | apply inc profile => exact .of_host (by simp) (by simp)
  | beacon | admitJoiner | decline | snapshot | snapEnd => simp [Stored, hf, Frame.kind] at hk

/-- A replayed frame has the effect it has live, but for the sequence number and the Host Port (R119, R81). -/
theorem applyLive_replay (hk : Stored d.frame.kind) :
    s.applyLive d true = { s.applyLive d false with
      host := s.host, replica := { (s.applyLive d false).replica with seq := s.replica.seq } } := by
  obtain ⟨heff, hseq⟩ := liveEffects_replays hempty ho hk
  let u := (s.liveEffects d false).serviceRevocations
  have htrue : s.applyLive d true = withHost u s.host := by
    rw [State.applyLive, heff, State.finishApplication, serviceRevocations_withHost]
    rfl
  have hseq' : u.replica.seq = s.replica.seq := by
    rw [serviceRevocations_seq, ← hseq, heff]
    rfl
  have hfalse : s.applyLive d false = if !u.replica.live then u else { u with replica := { u.replica with seq := u.replica.seq + 1 } } := rfl
  rw [htrue, hfalse, ← hseq']
  split <;> rfl

end

/-! ## The station state during the replay (R119) -/

/-- An application moves no station out of CATCHUP: only a leave or a founder's QUIT moves a station at all. -/
theorem liveEffects_catchup {s : State} (d : Delivered) (b : Bool) (h : s.member.state = .catchup) :
    (s.liveEffects d b).member.state = .catchup := by
  unfold State.liveEffects
  cases d.frame with
  | claim | drop | extend | withdraw | revoke | found => simpa using h
  | quit =>
    simp only [State.liveQuit, State.ownQuit, State.peerQuit, h, reduceCtorEq, if_false, decide_false, Bool.false_and]
    split_ifs <;> simp [h]
  | depart p =>
    simp only [State.liveDepart]
    split_ifs <;> simp [h]
  | apply inc profile =>
    simp only [State.liveApply]
    split
    · exact h
    · split
      · split_ifs <;> exact h
      · split_ifs <;> simp [h]
  | admitJoiner j inc =>
    simp only [State.liveAdmit]
    split_ifs <;> simp [h]
  | decline => simp [State.liveDecline, h]
  | snapshot j =>
    simp only [State.liveSnapshot]
    split_ifs <;> simp [h]
  | snapEnd j =>
    simp only [State.liveSnapEnd]
    split_ifs <;> simp [h]
  | beacon body =>
    simp only [State.liveBeacon, State.unknownBeacon, State.sampleBeacon, h, reduceCtorEq, decide_false, Bool.false_and, if_false]
    split_ifs <;> simp [State.recordBeacon, h]

theorem replay_catchup {s : State} (ds : List Delivered) (h : s.member.state = .catchup) : (s.replay ds).member.state = .catchup := by
  induction ds generalizing s with
  | nil => exact h
  | cons d ds ih => exact ih (s := s.applyLive d true) (by simpa [State.applyLive] using liveEffects_catchup d true h)

/-! ## The replica that a join loads (R117, R119) -/

theorem toList_map_finRange (v : Vector SnapEntry 64) (f : SnapEntry → ResourceEntry) :
    (v.map f).toList = (List.finRange 64).map (fun r => f v[r]) := by
  refine List.ext_getElem (by simp) fun i hi _ => ?_
  simp

/-- An entry as R119 loads it, with its deadline and revocation state written out. -/
theorem loadEntry_eq (s : State) (time : Tick) (e : SnapEntry) :
    (s.leaseContext time).loadEntry e =
      { state := e.state, counter := e.counter, waiters := e.waiters, holders := e.holders.map (fun h =>
        let deadline := time + BitVec.ofNat 32 (64 * (h.remaining.toNat + s.cfg.guard.toNat))
        { station := h.station, grant := h.grant, term := h.remaining, deadline := deadline
          revocation := if h.station = s.me then none else if 0 ≤ (s.now - deadline).toInt then some .marked else some .watching }) } := by
  simp only [LeaseContext.loadEntry, LeaseContext.newHolder, LeaseContext.revocationFor, reached_iff]
  rfl

/-! ## The end of the join (R118, R119) -/

/-- The roster once the SNAP_END's sender has been heard and this station's own entry is ONLINE (R119, R86). -/
def completedRoster (t : State) (p : Station) (stamp : Tick) : Vector RosterEntry 16 :=
  (heardRoster t p stamp).set t.me { (heardRoster t p stamp)[t.me] with state := .online }

theorem heardRoster_get (t : State) (p : Station) (stamp : Tick) (x : Station) :
    (heardRoster t p stamp)[x] =
      if x = p ∧ x ≠ t.me ∧ (t.member.roster[x]).state ≠ .absent then { t.member.roster[x] with lastHeard := some stamp } else t.member.roster[x] := by
  simp [heardRoster]

theorem completedRoster_me (t : State) (p : Station) (stamp : Tick) :
    (completedRoster t p stamp)[t.me] = { t.member.roster[t.me] with state := .online } := by
  rw [completedRoster, roster_set_same, heardRoster_get, if_neg (fun ⟨_, hne, _⟩ => hne rfl)]

theorem completedRoster_other {t : State} {p x : Station} (stamp : Tick) (hx : x ≠ t.me) :
    (completedRoster t p stamp)[x] =
      if x = p ∧ (t.member.roster[x]).state ≠ .absent then { t.member.roster[x] with lastHeard := some stamp } else t.member.roster[x] := by
  have hne : t.me.val ≠ x.val := fun he => hx (Fin.ext he.symm)
  have hget : (completedRoster t p stamp)[x] = (heardRoster t p stamp)[x] := by simp [completedRoster, hne]
  rw [hget, heardRoster_get]
  simp [hx]

theorem completedRoster_state {t : State} {p x : Station} (stamp : Tick) (hx : x ≠ t.me) :
    ((completedRoster t p stamp)[x]).state = (t.member.roster[x]).state := by
  rw [completedRoster_other stamp hx]
  split <;> rfl

/-- This station's own entry and the station become ONLINE once the Catch-up Queue has been replayed (R119). -/
theorem completed_eq {t : State} {p : Station} (stamp : Tick) (hst : t.member.state = .catchup) (hm : t.replica.marked = [])
    (hq : (t.member.roster[p]).departQueued = false) :
    let heard := t.renewPresence p stamp
    let own := heard.setPeer heard.me { heard.peer heard.me with state := .online }
    State.enterOnline { own with member := { own.member with admission := none, joinTimer := none, attempt := none, snapshot := .empty } }
      = { t with
        host := t.host.raise (joinedEvent t)
        member := { t.member with
          state := .online, attempt := none, admission := none, joinTimer := none, foundingPeriod := none, snapshot := .empty, joinTag := none
          failures := 0
          roster := Vector.ofFn (fun x : Station =>
            let e := t.member.roster[x]
            let e := if x = p ∧ e.state ≠ .absent then { e with lastHeard := some stamp } else e
            if x = t.me then { t.member.roster[x] with state := .online }
            else if e.state ≠ .absent ∧ e.departQueued = false then { e with presence := some (t.now + t.presenceSpan) }
            else e) } } := by
  intro heard own
  let u : State := { t with member := { t.member with
    admission := none, joinTimer := none, attempt := none, snapshot := .empty, roster := completedRoster t p stamp } }
  have hheard : heard = { t with member := { t.member with roster := heardRoster t p stamp } } :=
    renewPresence_not_online stamp (by rw [hst]; exact nofun) hq
  have hown : own = { t with member := { t.member with roster := completedRoster t p stamp } } := by
    simp only [own, hheard]
    rfl
  have hu : { own with member := { own.member with admission := none, joinTimer := none, attempt := none, snapshot := .empty } } = u := by
    rw [hown]
  have hcount : u.onlinePeers = t.onlinePeers := by
    rw [onlinePeers_eq, onlinePeers_eq]
    refine congrArg List.length (List.filter_congr fun x _ => ?_)
    refine decide_eq_decide.mpr (and_congr_right fun hx => ?_)
    rw [show (u.member.roster[x]).state = _ from completedRoster_state stamp hx]
  have hjoined : joinedEvent u = joinedEvent t := by rw [joinedEvent, hcount]; rfl
  rw [hu, enterOnline_eq (s := u) hm, hjoined]
  have hroster (x : Station) :
      (if x ≠ u.me ∧ (u.member.roster[x]).state ≠ .absent ∧ (u.member.roster[x]).departQueued = false then
        { u.member.roster[x] with presence := some (u.now + u.presenceSpan) } else u.member.roster[x])
      = (let e := t.member.roster[x]
        let e := if x = p ∧ e.state ≠ .absent then { e with lastHeard := some stamp } else e
        if x = t.me then { t.member.roster[x] with state := .online }
        else if e.state ≠ .absent ∧ e.departQueued = false then { e with presence := some (t.now + t.presenceSpan) }
        else e) := by
    by_cases hx : x = t.me
    · rw [if_neg (fun h => h.1 hx), if_pos hx, hx]
      exact completedRoster_me t p stamp
    · rw [show u.member.roster[x] = _ from completedRoster_other stamp hx, if_neg hx]
      simp only [show x ≠ u.me from hx, ne_eq, not_false_eq_true, true_and]
      rfl
  simp only [hroster]
  rfl

/-- A SNAP_END from the admitter in CATCHUP that passes its checks completes the join (R118, R119). -/
theorem exec_snapEndFrame {s : State} {p : Station} {digest : Word16} {stamp : Tick} {rest : List Delivered} {a : Attempt} {ap : AdmissionPart}
    {b : Rebuild} (hd : s.line.delivery = { sender := p, frame := .snapEnd s.me digest, stamp := stamp, own := false } :: rest)
    (hst : s.member.state = .catchup) (ha : s.member.attempt = some a) (hph : a.phase = .awaiting ∨ a.phase = .collecting)
    (hap : a.admission = some ap) (hp : ap.admitter = p) (hb : s.member.snapshot = .rebuild b) (hpass : b.passes s.cfg ap digest = true) :
    exec .snapEndFrame s = .next (State.completeJoin { s with line := { s.line with delivery := rest } } a ap b stamp) := by
  let d : Delivered := { sender := p, frame := .snapEnd s.me digest, stamp := stamp, own := false }
  let taken : State := { s with line := { s.line with delivery := rest } }
  have hcounts : taken.countsFrame a d = false := by
    simp [State.countsFrame, d, Attempt.admitterIs, hap, hp, taken, hst, State.me, State.cfg]
  have hattempt : taken.setAttempt a = taken := by
    simp only [State.setAttempt, taken, ← ha]
  have hframe : taken.joinerFrame d = taken.attemptFrame a d := by
    have ha' : taken.member.attempt = some a := ha
    obtain h | h := hph <;> simp only [State.joinerFrame, ha', h, hcounts, Bool.false_eq_true, if_false, hattempt]
  have hsnap : taken.attemptFrame a d = taken.joinerSnapEnd a ap digest stamp := by
    have hguard : s.me = taken.me ∧ ap.admitter = p ∧ taken.member.state = .catchup := ⟨rfl, hp, hst⟩
    simp [State.attemptFrame, d, hap, hguard]
  have hpasses : taken.joinerSnapEnd a ap digest stamp = taken.completeJoin a ap b stamp := by
    have hb' : taken.member.snapshot = .rebuild b := hb
    simp only [State.joinerSnapEnd, hb']
    exact if_pos hpass
  refine (exec_foreign hd rfl nofun).trans (congrArg Host.Outcome.next ?_)
  have hroute : taken.routeFrame d = taken.joinerFrame d := by
    have hst' : taken.member.state = .catchup := hst
    simp only [State.routeFrame, hst']
  rw [← hpasses, ← hsnap, ← hframe]
  exact hroute

/-- Settles O51: the load, the replay and the entry to ONLINE; a replayed frame against a live one; and a frame at a member's live replica. -/
theorem snapEndCompletesTheJoin : Obligations.SnapEndCompletesTheJoin := by
  refine ⟨fun s rest p digest stamp a ap b hd hst ha hph hap hp hb hnext hlast hdigest => ?_, fun s d hempty ho hk => ?_,
    fun s d rest hd hdep => exec_handedToMember hd hdep⟩
  · intro entry entries loaded t hm hq peers joined
    have hpass : b.passes s.cfg ap digest = true := by simp [Rebuild.passes, hnext, hlast, hdigest]
    have hentry : (s.leaseContext a.stamp).loadEntry = entry := funext (loadEntry_eq s a.stamp)
    have htable : (b.table.map entry).toList = entries := toList_map_finRange b.table entry
    have hloaded : (s.leaseContext a.stamp).loadReplica b (ap.capture + a.accepted + 1) s.replica = loaded := by
      simp only [LeaseContext.loadReplica, hentry, htable]
      rfl
    have ht : State.replay { s with line := { s.line with delivery := rest }, replica := loaded } a.catchup = t := rfl
    have hcatchup : t.member.state = .catchup := replay_catchup a.catchup hst
    have hjoined : joinedEvent t = joined := by rw [joinedEvent, onlinePeers_eq]
    refine (exec_snapEndFrame hd hst ha hph hap hp hb hpass).trans (congrArg Host.Outcome.next ?_)
    have hcomplete := completed_eq stamp hcatchup hm hq
    rw [hjoined] at hcomplete
    refine Eq.trans ?_ hcomplete
    subst hp
    have hstart : ({ s with line := { s.line with delivery := rest }
                            replica := (s.leaseContext a.stamp).loadReplica b (ap.capture + a.accepted + 1) s.replica } : State)
        = { s with line := { s.line with delivery := rest }, replica := loaded } := by rw [hloaded]
    rw [← ht, ← hstart]
    rfl
  · exact applyLive_replay hempty ho hk

end Sys2Proof.RosterPresence
end

section
/-! PROOF. Founding, joining and leaving (spec/05): LEAVE by what the station already is, the own APPLY that begins an attempt, the frames that a
joiner stores, and the parts of a snapshot. -/

namespace Sys2Proof.JoinLeave

open Sys2Proof.Machine Sys2Proof.RosterPresence

/-! ## LEAVE taken (R124, R170) -/

/-- A LEAVE that passes its checks acts on the state the record has left, its answers not put off. -/
theorem exec_leave {s : State} {r : CommandRecord} {rest : List CommandRecord} (hc : s.host.commands = r :: rest) (hk : r.validKind = some .leave)
    (hr : r.inRange s.cfg .leave = true)
    (hst : s.member.state ≠ .unconfigured ∧ s.member.state ≠ .offline ∧ s.member.state ≠ .leaving) :
    exec .leave s = .next ({ s with host := { s.host with commands := rest } }.answering (fun t => t.startLeave r.tag)) := by
  have htaken : CommandKind.leave.takenIn s.member.state = true := by
    obtain ⟨hu, ho, hl⟩ := hst
    cases h : s.member.state with
    | unconfigured => exact absurd h hu
    | offline => exact absurd h ho
    | leaving => exact absurd h hl
    | listen | founding | joining | catchup | online | mute => rfl
  exact LocalClaims.exec_taking_ok hc hk htaken hr rfl

/-! ## Entry to LEAVING (R125) -/

/-- The Membership Unit on entry to LEAVING: a joiner drops what it has loaded, a member keeps its roster without presence deadlines. -/
def leavingMember (m : Membership) (tag : Byte) (evicts : Bool) : Membership :=
  let joiner := m.state = .joining ∨ m.state = .catchup
  { m with
    state := .leaving, leaveTag := some tag, departEvicts := evicts, beaconDeadline := none, beaconPending := false, attempt := none
    listenWindow := none, foundingPeriod := none, joinTimer := none, backoff := none
    roster := m.roster.map (fun e => if joiner then e.discard else { e with presence := none })
    rosterLive := if joiner then false else m.rosterLive
    admission := if joiner then none else m.admission
    snapshot := if joiner then .empty else m.snapshot }

theorem enterLeaving_eq (s : State) (tag : Byte) :
    s.enterLeaving tag = { s with tx := (s.tx.withdraw .beacon).2, member := leavingMember s.member tag s.evictable } := by
  by_cases hj : s.member.state = .joining ∨ s.member.state = .catchup
  · have hb : (s.member.state == .joining || s.member.state == .catchup) = true := by simpa using hj
    have hroster : (s.member.roster.map (fun e => { e with presence := none })).map RosterEntry.discard = s.member.roster.map RosterEntry.discard := by
      rw [Vector.map_map]; rfl
    simp only [State.enterLeaving, hb, stopBeacons_clearPresence, Membership.discardRoster, hroster, leavingMember, hj, if_true]
  · have hb : (s.member.state == .joining || s.member.state == .catchup) = false := by simpa using hj
    simp only [State.enterLeaving, hb, stopBeacons_clearPresence, leavingMember, hj, if_false, Bool.false_eq_true]

/-! ## LEAVE by a member or an accepted applicant (R124, R125, R97) -/

theorem startLeave_member {s : State} (tag : Byte)
    (h : s.member.state = .online ∨ s.member.state = .founding ∨ s.member.state = .catchup
      ∨ (s.member.state = .joining ∧ s.member.attempt.isSome = true)) : s.startLeave tag = s.leaveByQuit tag := by
  obtain h | h | h | ⟨h, ha⟩ := h
  · simp only [State.startLeave, h]
  · simp only [State.startLeave, h]
  · simp only [State.startLeave, h]
  · simp only [State.startLeave, h, ha, if_true]

section
variable {s : State} {tag : Byte}

/-- With no own membership frame out the QUIT is queued. -/
theorem leaveByQuit_queues (hown : s.member.own = none) :
    s.leaveByQuit tag = { s with
      tx := ((s.tx.withdraw .beacon).2.insert .quit).2
      member := { leavingMember s.member tag s.evictable with own := some { kind := .quit, withdrawn := false, next := none } } } := by
  have hown' : (s.enterLeaving tag).member.own = none := by rw [enterLeaving_eq]; exact hown
  have hquit : (s.enterLeaving tag).hasQuit = false := by simp only [State.hasQuit, hown']
  rw [State.leaveByQuit, hquit, if_neg Bool.false_ne_true, queueOwn_of_none .quit hown', enterLeaving_eq]
  rfl

/-- A QUIT that is queued already, or recorded to follow, stays as it is. -/
theorem leaveByQuit_keeps {o : OwnFrame} (hown : s.member.own = some o) (hq : o.kind = .quit ∨ o.next = some .quit) :
    s.leaveByQuit tag = { s with tx := (s.tx.withdraw .beacon).2, member := leavingMember s.member tag s.evictable } := by
  have hquit : (s.enterLeaving tag).hasQuit = true := by
    have hown' : (s.enterLeaving tag).member.own = some o := by rw [enterLeaving_eq]; exact hown
    simpa [State.hasQuit, hown'] using hq
  rw [State.leaveByQuit, hquit, if_pos rfl, enterLeaving_eq]

/-- Behind another own frame that is out the QUIT is recorded to follow. -/
theorem leaveByQuit_follows {o : OwnFrame} (hown : s.member.own = some o) (hk : o.kind ≠ .quit) (hn : o.next ≠ some .quit) :
    s.leaveByQuit tag = { s with
      tx := (s.tx.withdraw .beacon).2
      member := { leavingMember s.member tag s.evictable with own := some { o with next := some .quit } } } := by
  have hown' : (s.enterLeaving tag).member.own = some o := by rw [enterLeaving_eq]; exact hown
  have hquit : (s.enterLeaving tag).hasQuit = false := by simp [State.hasQuit, hown', hk, hn]
  rw [State.leaveByQuit, hquit, if_neg Bool.false_ne_true]
  simp only [State.queueOwn, hown']
  rw [enterLeaving_eq]

end

/-- Settles O19: LEAVING is entered, and the QUIT by the own membership frame that is out. -/
theorem leaveOfAMemberQueuesQuit : Obligations.LeaveOfAMemberQueuesQuit := by
  intro s r rest hc hk hr hst joiner silent left
  let taken : State := { s with host := { s.host with commands := rest, later := [] } }
  have hevicts : taken.evictable = true := by
    obtain h | h | h | ⟨h, ha⟩ := hst <;> simp [State.evictable, taken, *]
  have hexec {t : State} (ht : taken.leaveByQuit r.tag = t) : exec .leave s = .next { t with host := { t.host with later := s.host.later } } := by
    rw [← ht, ← startLeave_member (s := taken) r.tag hst]
    exact exec_leave hc hk hr (by obtain h | h | h | ⟨h, -⟩ := hst <;> simp [h])
  refine ⟨fun hown => ?_, fun o hown => ⟨fun hq => ?_, fun hkind hnext => ?_⟩⟩
  · rw [hexec (leaveByQuit_queues (s := taken) hown), hevicts]
    rfl
  · rw [hexec (leaveByQuit_keeps (s := taken) hown hq), hevicts, ← hown]
    rfl
  · rw [hexec (leaveByQuit_follows (s := taken) hown hkind hnext), hevicts]
    rfl

/-! ## LEAVE before membership (R124, R126) -/

section
variable {s : State} {o : OwnFrame} {tag : Byte}

/-- The withdrawal of the own membership frame, by its answer (R135, log 18). -/
theorem withdrawOwn_onLine (hown : s.member.own = some o) (h : (s.tx.withdraw o.kind.id).1 = .onLine) :
    s.withdrawOwn = (true, { s with
      tx := (s.tx.withdraw o.kind.id).2, member := { s.member with own := some { o with withdrawn := true } } }) := by
  simp only [State.withdrawOwn, hown, State.withdrawFrame, h]

theorem withdrawOwn_gone (hown : s.member.own = some o) (h : (s.tx.withdraw o.kind.id).1 ≠ .onLine) :
    s.withdrawOwn = (false, { s with tx := (s.tx.withdraw o.kind.id).2, member := { s.member with own := none } }) := by
  simp only [State.withdrawOwn, hown, State.withdrawFrame]
  cases ha : (s.tx.withdraw o.kind.id).1 with
  | onLine => exact absurd ha h
  | removed | notFound => rfl

theorem startLeave_early (h : s.member.state = .listen ∨ (s.member.state = .joining ∧ s.member.attempt = none)) :
    s.startLeave tag = s.leaveEarly tag := by
  obtain h | ⟨h, ha⟩ := h
  · simp only [State.startLeave, h]
  · simp [State.startLeave, h, ha]

/-- A LEAVE before membership ends at once where no own membership frame is out, or none stays out. -/
theorem leaveEarly_none (hown : s.member.own = none) : s.leaveEarly tag = s.leaveEnds tag := by
  simp [State.leaveEarly, State.withdrawOwn, hown]

theorem leaveEarly_gone (hown : s.member.own = some o) (h : (s.tx.withdraw o.kind.id).1 ≠ .onLine) :
    s.leaveEarly tag = State.leaveEnds { s with tx := (s.tx.withdraw o.kind.id).2, member := { s.member with own := none } } tag := by
  simp only [State.leaveEarly, withdrawOwn_gone hown h, Bool.false_eq_true, if_false]

/-- With the own membership frame on the line the station becomes LEAVING, and no frame follows (R126). -/
theorem leaveEarly_onLine (hown : s.member.own = some o) (h : (s.tx.withdraw o.kind.id).1 = .onLine) (hev : s.evictable = false) :
    s.leaveEarly tag = { s with
      tx := ((s.tx.withdraw o.kind.id).2.withdraw .beacon).2
      member := { leavingMember s.member tag false with own := some { kind := o.kind, withdrawn := true, next := none } } } := by
  let waiting : State := { s with
    tx := (s.tx.withdraw o.kind.id).2, member := { s.member with own := some { o with withdrawn := true } } }
  have hev' : waiting.evictable = false := hev
  simp only [State.leaveEarly, withdrawOwn_onLine hown h, if_true]
  rw [enterLeaving_eq waiting, hev']
  rfl

end

/-- Settles O20: the station clear with LEFT, but where the own membership frame is on the line. -/
theorem leaveBeforeMembershipOrInMute : Obligations.LeaveBeforeMembershipOrInMute := by
  intro s r rest hc hk hr taken left
  let unhurried : State := { taken with host := { taken.host with later := [] } }
  have hexec {t : State} (hst : s.member.state ≠ .unconfigured ∧ s.member.state ≠ .offline ∧ s.member.state ≠ .leaving)
      (ht : unhurried.startLeave r.tag = t) : exec .leave s = .next { t with host := { t.host with later := s.host.later } } :=
    ht ▸ exec_leave hc hk hr hst
  refine ⟨fun hst => hexec (by simp [hst]) ?_, fun hst => ?_⟩
  · have hst' : unhurried.member.state = .mute := hst
    simp only [State.startLeave, hst']
    rfl
  · have hnot : s.member.state ≠ .unconfigured ∧ s.member.state ≠ .offline ∧ s.member.state ≠ .leaving := by
      obtain h | ⟨h, -⟩ := hst <;> simp [h]
    have hearly {t : State} (ht : unhurried.leaveEarly r.tag = t) := hexec hnot ((startLeave_early (s := unhurried) hst).trans ht)
    have hev : unhurried.evictable = false := by
      obtain h | ⟨h, ha⟩ := hst <;> simp [State.evictable, unhurried, taken, *]
    refine ⟨fun hown => hearly (leaveEarly_none hown), fun o hown => ⟨fun hgone => hearly (leaveEarly_gone hown hgone), fun hon => ?_⟩⟩
    exact ⟨_, hearly (leaveEarly_onLine hown hon hev), rfl, rfl, rfl, rfl, rfl, rfl, rfl, rfl, rfl, rfl, rfl⟩

/-! ## A frame that cannot evict the station (R93, R159) -/

/-- A frame of another station goes to the station's state where none can evict it. -/
theorem exec_foreign_not_evictable {s : State} {d : Delivered} {rest : List Delivered} (hd : s.line.delivery = d :: rest) (ho : d.own = false)
    (hev : s.evictable = false) : exec d.frame.kind.handing s = .next ({ s with line := { s.line with delivery := rest } }.routeFrame d) := by
  let taken : State := { s with line := { s.line with delivery := rest } }
  have hnot : taken.evictedBy d = false := by
    have hev' : taken.evictable = false := hev
    unfold State.evictedBy
    split
    · rw [hev', Bool.and_false]
    · rfl
  rw [exec_oldest hd, receive_of_foreign taken ho, hnot]
  rfl

theorem routeFrame_joiner {s : State} (d : Delivered) (h : s.member.state = .joining ∨ s.member.state = .catchup) :
    s.routeFrame d = s.joinerFrame d := by
  obtain h | h := h <;> simp only [State.routeFrame, h]

/-! ## The own APPLY (R113) -/

/-- The own APPLY, handed inward, leaves the Transmit Queue and goes to the station's state (R97, R134). -/
theorem receive_ownApply {s : State} {d : Delivered} {inc profile : Word16} (hf : d.frame = .apply inc profile) (ho : d.own = true)
    (hnote : s.member.orphanNote = none) (hown : s.member.own = some { kind := .apply, withdrawn := false, next := none }) :
    s.receive d
      = { s with tx := { s.tx with awaiting := s.tx.awaiting.erase .apply }, member := { s.member with own := none } }.routeFrame d := by
  simp [State.receive, ho, hf, State.endsNote, hnote, State.beaconDelivered, State.ownDelivered, Frame.id, OwnKind.ofId, hown, State.ownLeft,
    State.evictedBy, TransmitQueue.delivered]

theorem joinerFrame_ownApply {s : State} {d : Delivered} {inc profile : Word16} (hf : d.frame = .apply inc profile) (ho : d.own = true)
    (ha : s.member.attempt = none) (hb : s.member.backoff = none) : s.joinerFrame d = s.beginAttempt d.stamp := by
  simp [State.joinerFrame, ha, hf, ho, hb]

/-- Before its own APPLY a joiner reads no frame of another station (R113, R123). -/
theorem joinerFrame_ignored {s : State} {d : Delivered} (ha : s.member.attempt = none) (ho : d.own = false) : s.joinerFrame d = s := by
  simp only [State.joinerFrame, ha]
  split
  · simp [ho]
  · rfl

theorem beginAttempt_eq (s : State) (stamp : Tick) :
    s.beginAttempt stamp = { s with member := { s.member with
      attempt := some { stamp := stamp, accepted := 0, catchup := [], admission := none, phase := .awaiting }
      joinTimer := some (stamp + BitVec.ofNat 32 (512 * s.cfg.beaconPeriod.toNat)) } } := by
  rw [← LeaseTime.ltu_eight]
  rfl

/-- Settles O48: the own APPLY begins the attempt, and a frame of another station is not read before it. -/
theorem ownApplyBeginsTheAttempt : Obligations.OwnApplyBeginsTheAttempt := by
  intro s rest d hd hst ha hnote hb
  let taken : State := { s with line := { s.line with delivery := rest } }
  refine ⟨?_, fun ho => ?_⟩
  · rintro ho ⟨inc, profile, hf⟩ hown
    let landed : State := { taken with
      tx := { s.tx with awaiting := s.tx.awaiting.erase .apply }, member := { s.member with own := none } }
    have hexec : exec .applyFrame s = .next (taken.receive d) := by
      have h := exec_oldest hd
      rwa [hf] at h
    have hreceive : taken.receive d = landed.beginAttempt d.stamp :=
      calc taken.receive d
        _ = landed.routeFrame d := receive_ownApply hf ho hnote hown
        _ = landed.joinerFrame d := routeFrame_joiner d (.inl hst)
        _ = landed.beginAttempt d.stamp := joinerFrame_ownApply hf ho ha hb
    rw [hexec, hreceive, beginAttempt_eq]
    rfl
  · have hev : s.evictable = false := by simp [State.evictable, hst, ha]
    have hroute : taken.routeFrame d = taken :=
      (routeFrame_joiner (s := taken) d (.inl hst)).trans (joinerFrame_ignored (s := taken) ha ho)
    exact (exec_foreign_not_evictable hd ho hev).trans (congrArg Host.Outcome.next hroute)

/-! ## Frames without a live replica (R114, R159) -/

/-- A frame in phase AWAITING or COLLECTING that is counted, handed to a joiner (R114, R159). -/
theorem exec_joiner {s : State} {d : Delivered} {rest : List Delivered} {a : Attempt} (hd : s.line.delivery = d :: rest) (ho : d.own = false)
    (hdep : d.frame ≠ .depart s.me) (hst : s.member.state = .joining ∨ s.member.state = .catchup) (ha : s.member.attempt = some a)
    (hph : a.phase = .awaiting ∨ a.phase = .collecting) (hc : ∀ u : State, u.countsFrame a d = true) :
    exec d.frame.kind.handing s
      = .next ((State.setAttempt { s with line := { s.line with delivery := rest } } (counted a)).attemptFrame (counted a) d) := by
  let taken : State := { s with line := { s.line with delivery := rest } }
  have hroute : taken.routeFrame d = taken.joinerFrame d := routeFrame_joiner d hst
  rw [exec_foreign hd ho hdep, hroute, joinerFrame_counted (s := taken) ha hph (hc taken)]

/-- The kinds that a joiner stores whoever their sender is (R114). -/
def StoredOfAny (k : FrameKind) : Prop :=
  k = .claim ∨ k = .drop ∨ k = .extend ∨ k = .withdraw ∨ k = .revoke ∨ k = .found ∨ k = .apply

/-- Such a frame evicts nobody, is counted and is stored. -/
theorem storedOfAny_spec {d : Delivered} (hk : StoredOfAny d.frame.kind) :
    (∀ p, d.frame ≠ .depart p) ∧ (∀ (a : Attempt) (u : State), u.countsFrame a d = true)
      ∧ ∀ (s : State) (a : Attempt), s.attemptFrame a d = s.storeFrame a d := by
  cases hf : d.frame with
  | claim | drop | extend | withdraw | revoke | found | apply =>
    exact ⟨nofun, fun a u => by simp only [State.countsFrame, hf], fun s a => by simp only [State.attemptFrame, hf]⟩
  | beacon | admitJoiner | decline | snapshot | snapEnd | quit | depart => simp [StoredOfAny, hf, Frame.kind] at hk

/-- Settles O54: no state without a group reads a frame; a joiner stores up to 48. -/
theorem framesWithoutALiveReplica : Obligations.FramesWithoutALiveReplica := by
  intro s rest d hd ho
  refine ⟨fun hst => ?_, fun a hst ha hph hk => ?_⟩
  · have hev : s.evictable = false := by obtain h | h := hst <;> simp [State.evictable, h]
    rw [exec_foreign_not_evictable hd ho hev]
    obtain h | h := hst <;> simp only [State.routeFrame, h]
  · intro counted'
    obtain ⟨hdep, hcounts, hstores⟩ := storedOfAny_spec hk
    have hexec := exec_joiner hd ho (hdep s.me) hst ha hph (hcounts a)
    rw [hstores] at hexec
    exact ⟨fun hroom => hexec.trans (congrArg Host.Outcome.next (if_neg (Nat.not_le.mpr hroom))),
      fun hfull => hexec.trans (congrArg Host.Outcome.next (if_pos hfull))⟩

/-! ## The members of a snapshot part (R117, R195) -/

/-- The stations that an entry being rebuilt names. -/
def namedIn (e : SnapEntry) : List Station := e.holders.map (fun h => h.station) ++ e.waiters.map (fun w => w.station)

/-- The entry with members appended, holders and waiters apart. -/
def extended (e : SnapEntry) (ms : List Member) : SnapEntry :=
  { e with
    holders := e.holders ++ (ms.filter (fun m => m.holder)).map (fun m => { station := m.station, grant := m.grant, remaining := m.term })
    waiters := e.waiters
      ++ (ms.filter (fun m => !m.holder)).map (fun m => { station := m.station, mode := if m.mode = 1 then .exclusive else .shared, term := m.term }) }

/-- A member that passes the checks on an entry: its station is not named yet; a holder comes before every waiter, not on FREE and alone on
EXCLUSIVE; a waiter has a mode. -/
def Fits (e : SnapEntry) (m : Member) : Prop :=
  m.station ∉ namedIn e
    ∧ (m.holder = true → e.waiters = [] ∧ e.state ≠ .free ∧ (e.state = .exclusive → e.holders = []))
    ∧ (m.holder = false → m.mode = 1 ∨ m.mode = 2)

theorem mode_ofCode_isSome_iff : ∀ c : BitVec 2, (Mode.ofCode c).isSome = true ↔ c = 1 ∨ c = 2 := by decide

theorem named_iff (e : SnapEntry) (p : Station) :
    (e.holders.any (fun h => h.station == p) || e.waiters.any (fun w => w.station == p)) = true ↔ p ∈ namedIn e := by
  simp [namedIn]

theorem add_isSome_iff (e : SnapEntry) (m : Member) : (e.add m).isSome = true ↔ Fits e m := by
  by_cases hin : m.station ∈ namedIn e
  · simp [SnapEntry.add, (named_iff e m.station).mpr hin, Fits, hin]
  · have hnew : (e.holders.any (fun h => h.station == m.station) || e.waiters.any (fun w => w.station == m.station)) = false :=
      Bool.eq_false_iff.mpr (mt (named_iff e m.station).mp hin)
    cases hm : m.holder with
    | true => simp [SnapEntry.add, hnew, hm, Fits, hin, and_assoc]
    | false =>
      have hmode := mode_ofCode_isSome_iff m.mode
      cases ho : Mode.ofCode m.mode with
      | none => simpa [SnapEntry.add, hnew, hm, Fits, hin, ho] using hmode
      | some mode => simpa [SnapEntry.add, hnew, hm, Fits, hin, ho] using hmode

/-- A member that is appended stands at the end of its list. -/
theorem add_some {e e' : SnapEntry} {m : Member} (h : e.add m = some e') : e' = extended e [m] :=
  SnapEntry.addAll_some [m] e e' (by simp [SnapEntry.addAll, h])

/-- Members that together pass the checks on an entry. -/
def AllFit (e : SnapEntry) (ms : List Member) : Prop :=
  (namedIn e ++ ms.map (fun m => m.station)).Nodup
    ∧ (∀ earlier m later, ms = earlier ++ m :: later → m.holder = true → e.waiters = [] ∧ ∀ x ∈ earlier, x.holder = true)
    ∧ (e.state = .free → ms.filter (fun m => m.holder) = [])
    ∧ (e.state = .exclusive → e.holders.length + (ms.filter (fun m => m.holder)).length ≤ 1)
    ∧ ∀ m ∈ ms, m.holder = false → m.mode = 1 ∨ m.mode = 2

/-- That holders come first, and where, read off the first member. -/
theorem holdersFirst_cons (m : Member) (ms : List Member) (P : Prop) :
    (∀ earlier x later, m :: ms = earlier ++ x :: later → x.holder = true → P ∧ ∀ y ∈ earlier, y.holder = true)
      ↔ (m.holder = true → P)
        ∧ ∀ earlier x later, ms = earlier ++ x :: later → x.holder = true → (P ∧ m.holder = true) ∧ ∀ y ∈ earlier, y.holder = true := by
  refine ⟨fun h => ⟨fun hm => (h [] m ms rfl hm).1, fun earlier x later hs hx => ?_⟩, fun ⟨hfirst, hlater⟩ earlier x later hs hx => ?_⟩
  · obtain ⟨hp, hall⟩ := h (m :: earlier) x later (by rw [hs]; rfl) hx
    simp only [List.mem_cons, forall_eq_or_imp] at hall
    exact ⟨⟨hp, hall.1⟩, hall.2⟩
  · cases earlier with
    | nil =>
      obtain ⟨rfl, -⟩ := List.cons.inj hs
      exact ⟨hfirst hx, nofun⟩
    | cons y earlier =>
      obtain ⟨rfl, hrest⟩ := List.cons.inj hs
      obtain ⟨⟨hp, hm⟩, hall⟩ := hlater earlier x later hrest hx
      exact ⟨hp, by simpa using ⟨hm, hall⟩⟩

/-- A member that is appended is named once more than before. -/
theorem namedIn_extended_perm (e : SnapEntry) (m : Member) : (namedIn (extended e [m])).Perm (namedIn e ++ [m.station]) := by
  cases hm : m.holder with
  | true =>
    have hlast := (List.perm_append_singleton m.station (e.waiters.map (fun w => w.station))).symm
    simpa [namedIn, extended, hm] using hlast.append_left (e.holders.map (fun h => h.station))
  | false => simp [namedIn, extended, hm]

/-- The checks on members, by the first of them. -/
theorem allFit_cons (e : SnapEntry) (m : Member) (ms : List Member) : AllFit e (m :: ms) ↔ Fits e m ∧ AllFit (extended e [m]) ms := by
  have hnodup : (namedIn e ++ (m :: ms).map (fun m => m.station)).Nodup
      ↔ m.station ∉ namedIn e ∧ (namedIn (extended e [m]) ++ ms.map (fun m => m.station)).Nodup := by
    rw [((namedIn_extended_perm e m).append_right _).nodup_iff]
    grind [List.nodup_append]
  rw [AllFit, AllFit, Fits, hnodup, holdersFirst_cons]
  cases hm : m.holder with
  | true =>
    have hone : e.holders.length + ((ms.filter (fun m => m.holder)).length + 1) ≤ 1
        ↔ e.holders = [] ∧ e.holders.length + 1 + (ms.filter (fun m => m.holder)).length ≤ 1 := by
      rw [← List.length_eq_zero_iff]
      omega
    simp [extended, hm, hone]
    tauto
  | false =>
    simp [extended, hm]
    tauto

theorem allFit_nil (e : SnapEntry) : AllFit e [] ↔ (namedIn e).Nodup ∧ (e.state = .exclusive → e.holders.length ≤ 1) := by simp [AllFit]

/-- An entry that contradicts nothing goes on contradicting nothing with a member that fits. -/
theorem allFit_extended {e : SnapEntry} {m : Member} (he : AllFit e []) (hm : Fits e m) : AllFit (extended e [m]) [] := by
  rw [allFit_nil] at he ⊢
  obtain ⟨hnodup, hone⟩ := he
  obtain ⟨hnew, hholder, -⟩ := hm
  refine ⟨?_, fun hst => ?_⟩
  · rw [(namedIn_extended_perm e m).nodup_iff, ← List.concat_eq_append, List.nodup_concat]
    exact ⟨hnew, hnodup⟩
  · cases h : m.holder with
    | true => simp [extended, h, (hholder h).2.2 hst]
    | false => simpa [extended, h] using hone hst

theorem addAll_isSome_iff (ms : List Member) {e : SnapEntry} (he : AllFit e []) : (e.addAll ms).isSome = true ↔ AllFit e ms := by
  induction ms generalizing e with
  | nil => simpa [SnapEntry.addAll] using he
  | cons m ms ih =>
    rw [allFit_cons, ← add_isSome_iff]
    cases ha : e.add m with
    | none => simp [SnapEntry.addAll, ha]
    | some e₁ =>
      have hfits : Fits e m := (add_isSome_iff e m).mp (by rw [ha]; rfl)
      obtain rfl := add_some ha
      simpa [SnapEntry.addAll, ha] using ih (allFit_extended he hfits)

/-- The members of a part are appended exactly if together they pass. -/
theorem addAll_eq_some_iff {e : SnapEntry} (he : AllFit e []) (ms : List Member) (e' : SnapEntry) :
    e.addAll ms = some e' ↔ AllFit e ms ∧ e' = extended e ms := by
  rw [← addAll_isSome_iff ms he]
  refine ⟨fun h => ⟨by rw [h]; rfl, SnapEntry.addAll_some ms e e' h⟩, fun ⟨hsome, he'⟩ => ?_⟩
  obtain ⟨e₁, h₁⟩ := Option.isSome_iff_exists.mp hsome
  rw [h₁, he', SnapEntry.addAll_some ms e e₁ h₁]
  rfl

/-! ## A snapshot part (R117, R195) -/

/-- The entry that a part of a resource goes on from: the resource's own where it was the last one, else a new one. -/
def startEntry (b : Rebuild) (r : Fin 64) (st : ResourceState) (counter : Word16) : SnapEntry :=
  if b.last = some r then b.table[r] else { state := st, counter := counter, holders := [], waiters := [] }

theorem startEntry_fit {b : Rebuild} (hs : (SnapshotBuffer.rebuild b).Sound) (r : Fin 64) (st : ResourceState) (counter : Word16) :
    AllFit (startEntry b r st counter) [] := by
  rw [allFit_nil, startEntry]
  split
  · obtain ⟨-, hone, -, hnodup⟩ := hs r
    exact ⟨hnodup, hone⟩
  · exact ⟨List.nodup_nil, fun _ => Nat.zero_le 1⟩

/-- A part starts from its entry where that has its state and counter, and the resources before it are complete. -/
theorem base_eq_some_iff (b : Rebuild) (r : Fin 64) (st : ResourceState) (counter : Word16) (e : SnapEntry) :
    b.base r st counter = some e ↔ e = startEntry b r st counter ∧ e.state = st ∧ e.counter = counter
      ∧ ∀ q, b.last = some q → q ≠ r → q < r ∧ ((b.table[q]).state = .free ∨ (b.table[q]).holders ≠ []) := by
  cases hl : b.last with
  | none =>
    simp only [Rebuild.base, startEntry, hl]
    grind
  | some q =>
    have hcomplete : b.lastComplete = true ↔ (b.table[q]).state = .free ∨ (b.table[q]).holders ≠ [] := by
      simp [Rebuild.lastComplete, hl, SnapEntry.complete]
    simp only [Rebuild.base, startEntry, hl]
    grind

theorem meaningful_iff (m : Member) :
    m.meaningful = true ↔ m.term ≠ 0 ∧ (m.holder = true → m.mode = 0) ∧ (m.holder = false → m.mode = 1 ∨ m.mode = 2) := by
  cases h : m.holder <;> simp [Member.meaningful, h, mode_ofCode_isSome_iff, and_comm]

theorem resourceState_ofCode_iff : ∀ (c : BitVec 2) (st : ResourceState), ResourceState.ofCode c = some st ↔ c = BitVec.ofNat 2 st.code := by
  intro c st
  cases st <;> revert c <;> decide

theorem endsShort_eq_false_iff (e : SnapEntry) (ap : AdmissionPart) (p : SnapshotPart) :
    e.endsShort ap p = false ↔ (p.index.toNat + 1 = ap.parts → e.state = .free ∨ e.holders ≠ []) := by
  simp [SnapEntry.endsShort, SnapEntry.complete, or_iff_not_imp_left]

/-- A part loads where each of its checks passes, and gives the entry that its members leave. -/
theorem load_eq_some_iff (b : Rebuild) (c : ConfigRecord) (ap : AdmissionPart) (p : SnapshotPart) (b' : Rebuild) :
    b.load c ap p = some b' ↔ ∃ r st e e', (p.index.toNat = ap.next ∧ ap.next < ap.parts) ∧ (p.resource.toNat = r.val ∧ r.val < c.resourceCount)
      ∧ (∀ m ∈ p.members, m.meaningful = true) ∧ ResourceState.ofCode p.state = some st ∧ b.base r st p.counter = some e
      ∧ e.addAll p.members = some e' ∧ e'.endsShort ap p = false ∧ b' = { table := b.table.set r e', last := some r } := by
  constructor
  · intro h
    simp only [Rebuild.load] at h
    split at h
    · cases h
    rename_i hindex
    split at h
    · rename_i hr
      split at h
      · cases h
      rename_i hconf
      split at h
      · cases h
      rename_i st hst
      split at h
      · cases h
      rename_i e he
      split at h
      · cases h
      rename_i e' he'
      split at h
      · cases h
      rename_i hend
      simp only [Bool.or_eq_true, decide_eq_true_eq, not_or, not_not, Nat.not_le, Bool.not_eq_true', Bool.not_eq_false] at hindex hconf hend
      exact ⟨⟨p.resource.toNat, hr⟩, st, e, e', ⟨hindex.1, hindex.1 ▸ hindex.2⟩, ⟨rfl, hconf.1⟩, List.all_eq_true.mp hconf.2, hst, he, he',
        Bool.eq_false_iff.mpr hend, (Option.some.inj h).symm⟩
    · cases h
  · rintro ⟨r, st, e, e', ⟨hindex, hnext⟩, ⟨hr, hconf⟩, hmem, hst, he, he', hend, rfl⟩
    have hlt : p.resource.toNat < 64 := hr ▸ r.isLt
    obtain rfl : (⟨p.resource.toNat, hlt⟩ : Fin 64) = r := Fin.ext hr
    have hindices : ¬ (p.index.toNat ≠ ap.next ∨ ap.parts ≤ p.index.toNat) := by omega
    have hmembers : p.members.all Member.meaningful = true := List.all_eq_true.mpr hmem
    have hresource : ¬ c.resourceCount ≤ p.resource.toNat := Nat.not_le.mpr hconf
    simp [Rebuild.load, hindex, Nat.not_le.mpr hnext, hlt, hresource, hmembers, hst, he, he', hend]

/-- The part passes every check of R117 and R195, as the part of a resource in a state. -/
def PartPasses (b : Rebuild) (c : ConfigRecord) (ap : AdmissionPart) (part : SnapshotPart) (r : Fin 64) (st : ResourceState) : Prop :=
  let before := startEntry b r st part.counter
  let holders := part.members.filter (fun m => m.holder)
  (part.index.toNat = ap.next ∧ ap.next < ap.parts)
    ∧ (part.resource.toNat = r.val ∧ r.val < c.resourceCount ∧ part.state = BitVec.ofNat 2 st.code)
    ∧ before.state = st ∧ before.counter = part.counter
    ∧ (∀ q, b.last = some q → q ≠ r → q < r ∧ ((b.table[q]).state = .free ∨ (b.table[q]).holders ≠ []))
    ∧ (∀ m ∈ part.members, m.term ≠ 0 ∧ (m.holder = true → m.mode = 0) ∧ (m.holder = false → m.mode = 1 ∨ m.mode = 2))
    ∧ (namedIn before ++ part.members.map (fun m => m.station)).Nodup
    ∧ (∀ earlier m later, part.members = earlier ++ m :: later → m.holder = true → before.waiters = [] ∧ ∀ x ∈ earlier, x.holder = true)
    ∧ (st = .free → holders = []) ∧ (st = .exclusive → before.holders.length + holders.length ≤ 1)
    ∧ (part.index.toNat + 1 = ap.parts → st = .free ∨ before.holders ≠ [] ∨ holders ≠ [])

/-- What loads is the Snapshot Buffer with the resource's entry extended. -/
def loaded (b : Rebuild) (part : SnapshotPart) (r : Fin 64) (st : ResourceState) : Rebuild :=
  { table := b.table.set r (extended (startEntry b r st part.counter) part.members), last := some r }

/-- An entry has a holder once members are appended if it had one, or if one of them is. -/
theorem extended_holders_ne_nil_iff (e : SnapEntry) (ms : List Member) :
    (extended e ms).holders ≠ [] ↔ e.holders ≠ [] ∨ ms.filter (fun m => m.holder) ≠ [] := by
  rw [extended, ne_eq, List.append_eq_nil_iff, List.map_eq_nil_iff, not_and_or]

/-- Into a sound Snapshot Buffer a part loads exactly if it passes every check. -/
theorem load_iff_partPasses {b : Rebuild} (hs : (SnapshotBuffer.rebuild b).Sound) (c : ConfigRecord) (ap : AdmissionPart) (part : SnapshotPart)
    (b' : Rebuild) : b.load c ap part = some b' ↔ ∃ r st, PartPasses b c ap part r st ∧ b' = loaded b part r st := by
  rw [load_eq_some_iff]
  refine exists_congr fun r => exists_congr fun st => ?_
  constructor
  · rintro ⟨e, e', hindex, ⟨hr, hconf⟩, hmem, hst, he, he', hend, rfl⟩
    obtain ⟨rfl, hstate, hcounter, hlast⟩ := (base_eq_some_iff b r st part.counter e).mp he
    obtain ⟨⟨hnodup, horder, hfree, hone, -⟩, rfl⟩ := (addAll_eq_some_iff (startEntry_fit hs r st part.counter) _ _).mp he'
    rw [endsShort_eq_false_iff, extended_holders_ne_nil_iff] at hend
    rw [hstate] at hfree hone
    exact ⟨⟨hindex, ⟨hr, hconf, (resourceState_ofCode_iff _ _).mp hst⟩, hstate, hcounter, hlast, fun m hm => (meaningful_iff m).mp (hmem m hm),
      hnodup, horder, hfree, hone, fun h => (hend h).imp_left hstate.symm.trans⟩, rfl⟩
  · rintro ⟨⟨hindex, ⟨hr, hconf, hcode⟩, hstate, hcounter, hlast, hmem, hnodup, horder, hfree, hone, hend⟩, rfl⟩
    have hmembers : AllFit (startEntry b r st part.counter) part.members :=
      ⟨hnodup, horder, fun h => hfree (hstate.symm.trans h), fun h => hone (hstate.symm.trans h), fun m hm => (hmem m hm).2.2⟩
    refine ⟨_, _, hindex, ⟨hr, hconf⟩, fun m hm => (meaningful_iff m).mpr (hmem m hm), (resourceState_ofCode_iff _ _).mpr hcode,
      (base_eq_some_iff _ _ _ _ _).mpr ⟨rfl, hstate, hcounter, hlast⟩,
      (addAll_eq_some_iff (startEntry_fit hs r st part.counter) _ _).mpr ⟨hmembers, rfl⟩, ?_, rfl⟩
    rw [endsShort_eq_false_iff, extended_holders_ne_nil_iff]
    exact fun h => (hend h).imp_left hstate.trans

/-- What loads, with the state and the counter that the part carries. -/
theorem loaded_eq {b : Rebuild} {c : ConfigRecord} {ap : AdmissionPart} {part : SnapshotPart} {r : Fin 64} {st : ResourceState}
    (h : PartPasses b c ap part r st) :
    loaded b part r st =
      { last := some r
        table := b.table.set r { extended (startEntry b r st part.counter) part.members with state := st, counter := part.counter } } := by
  obtain ⟨-, -, hstate, hcounter, -⟩ := h
  simp only [loaded, extended, hstate, hcounter]

/-! ## SNAPSHOT and SNAP_END at a joiner in CATCHUP (R117, R118) -/

/-- A SNAPSHOT's part, judged: it loads and the next is expected, or the attempt fails with CHECK (R117). -/
theorem joinerSnapshot_loads {s : State} {a : Attempt} {ap : AdmissionPart} {part : SnapshotPart} {b b' : Rebuild}
    (hb : s.member.snapshot = .rebuild b) (hload : b.load s.cfg ap part = some b') :
    s.joinerSnapshot a ap part = { s with member := { s.member with
      snapshot := .rebuild b', attempt := some { a with admission := some { ap with next := ap.next + 1 } } } } := by
  simp only [State.joinerSnapshot, hb, hload]

theorem joinerSnapshot_fails {s : State} {a : Attempt} {ap : AdmissionPart} {part : SnapshotPart} {b : Rebuild}
    (hb : s.member.snapshot = .rebuild b) (hload : b.load s.cfg ap part = none) : s.joinerSnapshot a ap part = s.failAttempt .check := by
  simp only [State.joinerSnapshot, hb, hload]

/-- A part that is still to come fails the checks of SNAP_END, and so does another digest (R118). -/
theorem passes_eq_false {b : Rebuild} {c : ConfigRecord} {ap : AdmissionPart} {digest : Word16}
    (h : ap.next ≠ ap.parts ∨ digestOf c.resourceCount (b.table.toList.map SnapEntry.toEntry) ≠ digest) : b.passes c ap digest = false := by
  obtain h | h := h <;> simp [Rebuild.passes, h]

section
variable {s : State} {p : Station} {stamp : Tick} {rest : List Delivered} {a : Attempt} {ap : AdmissionPart}
  (hst : s.member.state = .catchup) (ha : s.member.attempt = some a) (hph : a.phase = .awaiting ∨ a.phase = .collecting)
  (hap : a.admission = some ap) (hp : ap.admitter = p)
include hst ha hph hap hp

/-- A SNAPSHOT of the admission is counted, and its part is judged (R114, R117). -/
theorem exec_snapshotFrame {part : SnapshotPart}
    (hd : s.line.delivery = { sender := p, frame := .snapshot s.me part, stamp := stamp, own := false } :: rest) :
    exec .snapshotFrame s
      = .next ((State.setAttempt { s with line := { s.line with delivery := rest } } (counted a)).joinerSnapshot (counted a) ap part) := by
  refine (exec_joiner hd rfl nofun (.inr hst) ha hph fun _ => rfl).trans (congrArg Host.Outcome.next ?_)
  simp [State.attemptFrame, hap, hp, hst, State.me, State.cfg]

/-- A SNAP_END of the admission is not counted, and fails the attempt where it fails its checks (R114, R118). -/
theorem exec_snapEndFrame_fails {digest : Word16} {b : Rebuild}
    (hd : s.line.delivery = { sender := p, frame := .snapEnd s.me digest, stamp := stamp, own := false } :: rest)
    (hb : s.member.snapshot = .rebuild b) (hfail : b.passes s.cfg ap digest = false) :
    exec .snapEndFrame s = .next ((State.setAttempt { s with line := { s.line with delivery := rest } } a).failAttempt .check) := by
  let d : Delivered := { sender := p, frame := .snapEnd s.me digest, stamp := stamp, own := false }
  let taken : State := { s with line := { s.line with delivery := rest } }
  let u : State := taken.setAttempt a
  have hcounts : taken.countsFrame a d = false := by
    simp [State.countsFrame, d, Attempt.admitterIs, hap, hp, taken, hst, State.me, State.cfg]
  have hframe : taken.joinerFrame d = u.attemptFrame a d := by
    have ha' : taken.member.attempt = some a := ha
    obtain h | h := hph <;> simp only [State.joinerFrame, ha', h, hcounts, Bool.false_eq_true, if_false, u]
  have hsnap : u.attemptFrame a d = u.joinerSnapEnd a ap digest stamp := by
    have hguard : s.me = u.me ∧ ap.admitter = p ∧ u.member.state = .catchup := ⟨rfl, hp, hst⟩
    simp [State.attemptFrame, d, hap, hguard]
  have hfails : u.joinerSnapEnd a ap digest stamp = u.failAttempt .check := by
    have hb' : u.member.snapshot = .rebuild b := hb
    have hfail' : b.passes u.cfg ap digest = false := hfail
    simp only [State.joinerSnapEnd, hb', hfail', Bool.false_eq_true, if_false]
  refine (exec_foreign hd rfl nofun).trans (congrArg Host.Outcome.next ?_)
  calc taken.routeFrame d
    _ = taken.joinerFrame d := routeFrame_joiner d (.inr hst)
    _ = u.failAttempt .check := by rw [hframe, hsnap, hfails]

end

/-- Settles O50: a part loads exactly if it passes every check; a SNAP_END without every part, or with another digest, fails the attempt. -/
theorem snapshotPartsLoadOrFail : Obligations.SnapshotPartsLoadOrFail := by
  intro s rest p f stamp a ap b hd hst ha hph hap hp hb hs taken counted'
  rw [hb] at hs
  refine ⟨?_, ?_⟩
  · rintro part rfl holders waiters before passes
    have hpasses (r : Fin 64) (st : ResourceState) : passes r st ↔ PartPasses b s.cfg ap part r st := Iff.rfl
    have hexec : exec .snapshotFrame s = .next ((taken counted').joinerSnapshot counted' ap part) := exec_snapshotFrame hst ha hph hap hp hd
    refine ⟨fun r st h => ?_, fun h => ?_⟩
    · have hpass := (hpasses r st).mp h
      have hload := (load_iff_partPasses hs s.cfg ap part _).mpr ⟨r, st, hpass, rfl⟩
      rw [hexec, joinerSnapshot_loads (s := taken counted') hb hload, loaded_eq hpass]
      rfl
    · have hload : b.load s.cfg ap part = none := by
        refine Option.eq_none_iff_forall_ne_some.mpr fun b' hb' => ?_
        obtain ⟨r, st, hpass, -⟩ := (load_iff_partPasses hs s.cfg ap part b').mp hb'
        exact h r st ((hpasses r st).mpr hpass)
      exact hexec.trans (congrArg Host.Outcome.next (joinerSnapshot_fails (s := taken counted') hb hload))
  · rintro digest rfl hbad
    exact exec_snapEndFrame_fails hst ha hph hap hp hd hb (passes_eq_false hbad)

end Sys2Proof.JoinLeave
end

section
/-! PROOF. The Transmit Queue (spec/06): the bounds that every command keeps, first for each operation of the queue, then for each operation that
reaches it; what its requests do; and how a sender's attempt ends in a lost arbitration and, its body decoded as it was sent, in acceptance. -/

namespace Sys2Proof.TransmitQ

open Sys2Proof.Machine

/-! ## The bounds, entries and pending set apart (R129, R130, R131, R140, R142) -/

/-- The group of the frames of an identity (R129, R130). -/
def group : FrameId → TxGroup
  | .found | .apply | .quit | .depart _ => .membership
  | .beacon => .presence
  | .stream => .stream
  | .decline _ => .declinePlace
  | .revoke _ _ _ => .revocation
  | .claim _ | .drop _ | .extend _ | .withdraw _ => .lease

/-- A frame's identity names its group. -/
theorem kind_group (f : Frame) : f.kind.group = group f.id := by cases f <;> rfl

/-- The entries counted in a group: those of its kinds that are no orphans (R130, R131). -/
def ofGroup (es : List TxEntry) (g : TxGroup) : List TxEntry := es.filter (fun e => !e.orphan && e.frame.kind.group == g)

theorem inGroup_eq (q : TransmitQueue) (g : TxGroup) : q.inGroup g = ofGroup q.entries g := rfl

/-- The bounds of `TransmitQueue.Sound` that speak of the entries. -/
structure EntriesSound (es : List TxEntry) : Prop where
  flying : (es.filter (fun e => e.inFlight)).length ≤ 1
  quota : ∀ g : TxGroup, (ofGroup es g).length ≤ g.quota
  ids : ((es.filter (fun e => !e.orphan)).map (fun e => e.frame.id)).Nodup
  orphans : ∀ e ∈ es, e.orphan = true → e.inFlight = true ∧ e.withdrawn = true

theorem sound_iff (q : TransmitQueue) : q.Sound ↔ EntriesSound q.entries ∧ (q.pendingDeclines.map (fun d => d.joiner)).Nodup :=
  ⟨fun ⟨hfly, hquota, hids, horphans, hpend⟩ => ⟨⟨hfly, hquota, hids, horphans⟩, hpend⟩,
    fun ⟨⟨hfly, hquota, hids, horphans⟩, hpend⟩ => ⟨hfly, hquota, hids, horphans, hpend⟩⟩

section
variable {q : TransmitQueue} (h : q.Sound)
include h

theorem sound_entries : EntriesSound q.entries := ((sound_iff q).mp h).1

theorem sound_pending : (q.pendingDeclines.map (fun d => d.joiner)).Nodup := ((sound_iff q).mp h).2

/-- Other entries within the bounds leave the queue within them. -/
theorem sound_of_entries {es : List TxEntry} (hes : EntriesSound es) : TransmitQueue.Sound { q with entries := es } :=
  (sound_iff _).mpr ⟨hes, ((sound_iff q).mp h).2⟩

/-- So does another pending set with one place for a joiner. -/
theorem sound_of_pending {ds : List DeclineBody} (hds : (ds.map (fun d => d.joiner)).Nodup) :
    TransmitQueue.Sound { q with pendingDeclines := ds } :=
  (sound_iff _).mpr ⟨((sound_iff q).mp h).1, hds⟩

end

section
variable {es : List TxEntry} (h : EntriesSound es)
include h

/-- Entries that leave take nothing out of bounds. -/
theorem entriesSound_sublist {es' : List TxEntry} (hsub : es'.Sublist es) : EntriesSound es' where
  flying := (hsub.filter _).length_le.trans h.flying
  quota g := (hsub.filter _).length_le.trans (h.quota g)
  ids := h.ids.sublist ((hsub.filter _).map _)
  orphans e he := h.orphans e (hsub.subset he)

/-- Neither does a change of entries in their places that keeps who they are, leaves every orphan there and marked, and at most one in flight. -/
theorem entriesSound_map_flying {f : TxEntry → TxEntry} (horphan : ∀ e, (f e).orphan = e.orphan) (hid : ∀ e, (f e).frame.id = e.frame.id)
    (hfly : ((es.map f).filter (fun e => e.inFlight)).length ≤ 1)
    (hmark : ∀ e ∈ es, e.orphan = true → (f e).inFlight = true ∧ (f e).withdrawn = true) : EntriesSound (es.map f) where
  flying := hfly
  quota g := by
    have hsame : ((fun e : TxEntry => !e.orphan && e.frame.kind.group == g) ∘ f) = fun e => !e.orphan && e.frame.kind.group == g := by
      funext e; simp only [Function.comp, horphan, kind_group, hid]
    rw [ofGroup, List.filter_map, List.length_map, hsame]
    exact h.quota g
  ids := by
    have hsame : ((fun e : TxEntry => !e.orphan) ∘ f) = fun e => !e.orphan := by funext e; simp only [Function.comp, horphan]
    rw [List.filter_map, List.map_map, hsame]
    simpa only [Function.comp_def, hid] using h.ids
  orphans e he ho := by
    obtain ⟨x, hx, rfl⟩ := List.mem_map.mp he
    exact hmark x hx (horphan x ▸ ho)

/-- The usual case: the change puts none in flight. -/
theorem entriesSound_map {f : TxEntry → TxEntry} (horphan : ∀ e, (f e).orphan = e.orphan) (hid : ∀ e, (f e).frame.id = e.frame.id)
    (hfly : ∀ e, (f e).inFlight = true → e.inFlight = true)
    (hmark : ∀ e ∈ es, e.orphan = true → (f e).inFlight = true ∧ (f e).withdrawn = true) : EntriesSound (es.map f) := by
  refine entriesSound_map_flying h horphan hid ?_ hmark
  rw [List.filter_map, List.length_map]
  exact (List.monotone_filter_right es hfly).length_le.trans h.flying

/-- A new frame keeps the bounds where its group is below its quota and no entry has its identity (R130). -/
theorem entriesSound_append {f : Frame}
    (hroom : (ofGroup es f.kind.group).length < f.kind.group.quota)
    (hnew : ∀ e ∈ es, e.orphan = false → e.frame.id ≠ f.id) : EntriesSound (es ++ [TxEntry.fresh f]) where
  flying := by simpa using h.flying
  quota g := by
    by_cases hg : f.kind.group = g
    · subst hg; simpa [ofGroup] using hroom
    · simpa [ofGroup, hg] using h.quota g
  ids := by
    have hfresh : f.id ∉ (es.filter (fun e => !e.orphan)).map (fun e => e.frame.id) := by simpa using hnew
    simpa using h.ids.concat hfresh
  orphans e he ho := by
    obtain he | he := List.mem_append.mp he
    · exact h.orphans e he ho
    · rw [List.mem_singleton.mp he] at ho
      cases ho

/-- At most one entry flies: whichever two do are one. -/
theorem flying_unique {x y : TxEntry} (hx : x ∈ es) (hy : y ∈ es) (hfx : x.inFlight = true) (hfy : y.inFlight = true) : x = y := by
  have hmem {z : TxEntry} (hz : z ∈ es) (hf : z.inFlight = true) : z ∈ es.filter (fun e => e.inFlight) := List.mem_filter.mpr ⟨hz, hf⟩
  have hle := h.flying
  rcases hl : es.filter (fun e => e.inFlight) with _ | ⟨z, _ | ⟨w, l⟩⟩
  · exact absurd (hl ▸ hmem hx hfx) List.not_mem_nil
  · exact (List.mem_singleton.mp (hl ▸ hmem hx hfx)).trans (List.mem_singleton.mp (hl ▸ hmem hy hfy)).symm
  · rw [hl] at hle
    exact absurd hle (by simp)

/-- Where none flies none is an orphan, and one entry at most has an identity. -/
theorem no_orphan (hnone : ∀ e ∈ es, e.inFlight = false) : ∀ e ∈ es, e.orphan = false := by
  intro e he
  by_contra ho
  rw [Bool.not_eq_false] at ho
  exact absurd (h.orphans e he ho).1 (by simp [hnone e he])

theorem length_filter_id_le (hnone : ∀ e ∈ es, e.inFlight = false) (id : FrameId) : (es.filter (fun e => e.frame.id = id)).length ≤ 1 := by
  have hall : es.filter (fun e => !e.orphan) = es := List.filter_eq_self.mpr fun e he => by simp [no_orphan h hnone e he]
  have hcount := List.nodup_iff_count_le_one.mp (hall ▸ h.ids) id
  rwa [List.count_eq_length_filter, List.filter_map, List.length_map] at hcount

end

/-! ## The operations of the queue -/

theorem renumber_id (f : Frame) (number : Byte) (digest : Word16) : (f.renumber number digest).id = f.id := by cases f <;> rfl

section
variable {q : TransmitQueue} (h : q.Sound)
include h

theorem insert_sound (f : Frame) : (q.insert f).2.Sound := by
  obtain ⟨hroom, hnone, hi⟩ | ⟨-, hi⟩ := q.insert_spec f <;> rw [hi]
  · exact sound_of_entries h (entriesSound_append (sound_entries h) hroom (TransmitQueue.find?_none hnone))
  · exact h

/-- The free DECLINE place takes any DECLINE: no entry has its identity, as none is of its group (R130, R140). -/
theorem entriesSound_decline (hfree : q.inGroup .declinePlace = []) (d : DeclineBody) :
    EntriesSound (q.entries ++ [TxEntry.fresh (.decline d)]) := by
  refine entriesSound_append (sound_entries h) ((congrArg List.length hfree).trans_lt Nat.zero_lt_one) fun e he ho hid => ?_
  have hgroup : e.frame.kind.group = .declinePlace := by rw [kind_group, hid]; rfl
  exact List.filter_eq_nil_iff.mp hfree e he (by simp [ho, hgroup])

theorem refillDecline_sound : q.refillDecline.Sound := by
  obtain hr | ⟨d, ds, hp, hfree, hr⟩ := q.refillDecline_spec <;> rw [hr]
  · exact h
  · have hpend := sound_pending h
    rw [hp, List.map_cons] at hpend
    exact (sound_iff _).mpr ⟨entriesSound_decline h hfree d, hpend.of_cons⟩

theorem pend_sound (d : DeclineBody) : (q.pend d).Sound := by
  unfold TransmitQueue.pend
  split
  · have hsame : (fun p : DeclineBody => p.joiner) ∘ (fun p => if p.joiner = d.joiner then d else p) = fun p => p.joiner := by
      funext p
      simp only [Function.comp]
      split
      · exact Eq.symm ‹_›
      · rfl
    refine sound_of_pending h ?_
    rw [List.map_map, hsame]
    exact sound_pending h
  · rename_i hnone
    refine sound_of_pending h ?_
    have hnew : ∀ p ∈ q.pendingDeclines, p.joiner ≠ d.joiner := by simpa using hnone
    simpa [List.nodup_append] using ⟨sound_pending h, hnew⟩

theorem handDecline_sound (d : DeclineBody) : (q.handDecline d).Sound := by
  unfold TransmitQueue.handDecline
  split
  · split
    · exact pend_sound h d
    · refine sound_of_entries h (entriesSound_map (sound_entries h) (fun e => ?_) (fun e => ?_) (fun e => ?_) fun e he ho => ?_)
      · split <;> rfl
      · split
        · rename_i hid
          simp only [Bool.and_eq_true, beq_iff_eq] at hid
          exact hid.2.symm
        · rfl
      · split <;> exact id
      · simpa [ho] using (sound_entries h).orphans e he ho
  · split
    · rename_i hfree
      exact sound_of_entries h (entriesSound_decline h (List.isEmpty_iff.mp hfree) d)
    · exact pend_sound h d

theorem withdraw_sound (id : FrameId) : (q.withdraw id).2.Sound := by
  obtain ⟨e, -, -, hw⟩ | ⟨e, -, -, hw⟩ | ⟨-, -, hw⟩ | ⟨-, -, hw⟩ := q.withdraw_spec id <;> rw [hw]
  · exact refillDecline_sound (sound_of_entries h (entriesSound_sublist (sound_entries h) List.filter_sublist))
  · refine sound_of_entries h (entriesSound_map (sound_entries h) (fun e => ?_) (fun e => ?_) (fun e => ?_) fun e he ho => ?_)
    · split <;> rfl
    · split <;> rfl
    · split <;> exact fun hf => hf
    · simpa [ho] using (sound_entries h).orphans e he ho
  · exact h
  · exact h

theorem refresh_sound (number : Byte) (digest : Word16) : (q.refresh number digest).2.Sound := by
  unfold TransmitQueue.refresh
  split
  · split
    · refine sound_of_entries h (entriesSound_map (sound_entries h) (fun e => ?_) (fun e => ?_) (fun e => ?_) fun e he ho => ?_)
      · split <;> rfl
      · split <;> rfl
      · split <;> exact fun hf => hf
      · simpa [ho] using (sound_entries h).orphans e he ho
    · refine sound_of_entries h (entriesSound_map (sound_entries h) (fun e => ?_) (fun e => ?_) (fun e => ?_) fun e he ho => ?_)
      · split <;> rfl
      · split
        · exact renumber_id _ number digest
        · rfl
      · split <;> exact fun hf => hf
      · simpa [ho] using (sound_entries h).orphans e he ho
  · exact h

/-- The frame in flight leaves (R134). -/
theorem land_sound : q.land.Sound := sound_of_entries h (entriesSound_sublist (sound_entries h) List.filter_sublist)

theorem accept_sound : q.accept.Sound := by
  unfold TransmitQueue.accept
  split
  · exact h
  · exact refillDecline_sound (land_sound h)

/-- The frame that stays at its place is no orphan, and no other flies (R131, R134). -/
theorem lose_sound : q.lose.2.Sound := by
  obtain ⟨-, hl⟩ | ⟨e, hfly, ⟨-, hl⟩ | ⟨-, -, hl⟩ | ⟨ho, -, hl⟩⟩ := q.lose_spec <;> rw [hl]
  · exact h
  · exact land_sound h
  · exact refillDecline_sound (land_sound h)
  · have hmem : e ∈ q.entries := List.mem_of_find?_eq_some hfly
    have hflies : e.inFlight = true := List.find?_some hfly
    refine sound_of_entries h (entriesSound_map (sound_entries h) (fun x => ?_) (fun x => ?_) (fun x => ?_) fun x hx hox => ?_)
    · split <;> rfl
    · split <;> rfl
    · split
      · exact fun hf => absurd hf Bool.false_ne_true
      · exact fun hf => hf
    · have hfx := ((sound_entries h).orphans x hx hox).1
      rw [flying_unique (sound_entries h) hx hmem hfx hflies, ho] at hox
      cases hox

theorem delivered_sound (id : FrameId) : (q.delivered id).Sound := h

/-- With none in flight the entry of an identity takes off under the same identity; it is the one entry of it (R133). -/
theorem start_sound {id : FrameId} {f : Frame} (hid : f.id = id) (hnone : ∀ e ∈ q.entries, e.inFlight = false) : (q.start id f).Sound := by
  have hes := sound_entries h
  refine sound_of_entries h (entriesSound_map_flying hes (fun e => ?_) (fun e => ?_) ?_ fun e he ho => ?_)
  · split <;> rfl
  · split
    · exact hid.trans (Eq.symm ‹_›)
    · rfl
  · have hflies : q.entries.filter ((fun e => e.inFlight) ∘ fun e => if e.frame.id = id then { e with frame := f, inFlight := true } else e)
        = q.entries.filter (fun e => e.frame.id = id) :=
      List.filter_congr fun e he => by by_cases heid : e.frame.id = id <;> simp [heid, hnone e he]
    rw [List.filter_map, List.length_map, hflies]
    exact length_filter_id_le hes hnone id
  · rw [no_orphan hes hnone e he] at ho
    cases ho

/-- A station clear keeps the frame in flight alone, as an orphan marked withdrawn (R142). -/
theorem cleared_sound : q.cleared.Sound := by
  have horphans (p : TxEntry → Bool) : q.cleared.entries.filter (fun e => !e.orphan && p e) = [] := by
    refine List.filter_eq_nil_iff.mpr fun e he => ?_
    obtain ⟨x, -, rfl⟩ := List.mem_map.mp he
    simp
  refine (sound_iff _).mpr ⟨⟨?_, fun g => ?_, ?_, fun e he _ => ?_⟩, List.nodup_nil⟩
  · exact (List.length_filter_le _ _).trans ((List.length_map _).trans_le (sound_entries h).flying)
  · rw [ofGroup, horphans]; exact Nat.zero_le _
  · have hnil := horphans fun _ => true
    simp only [Bool.and_true] at hnil
    rw [hnil]; exact List.nodup_nil
  · obtain ⟨x, hx, rfl⟩ := List.mem_map.mp he
    exact ⟨(List.mem_filter.mp hx).2, rfl⟩

end

/-! ## The size of the queue (R142, R145) -/

/-- The entries that are no orphans, counted group by group (R130). -/
theorem length_eq_sum_groups (es : List TxEntry) : (es.filter (fun e => !e.orphan)).length
    = (ofGroup es .membership).length + (ofGroup es .presence).length + (ofGroup es .stream).length + (ofGroup es .declinePlace).length
      + (ofGroup es .revocation).length + (ofGroup es .lease).length := by
  unfold ofGroup
  induction es with
  | nil => rfl
  | cons e es ih =>
    cases ho : e.orphan with
    | true => simpa [ho] using ih
    | false => cases hg : e.frame.kind.group <;> simp [ho, hg, ih] <;> omega

/-- The quotas add up to 31, and an orphan is the one frame in flight. -/
theorem length_le_of_sound {q : TransmitQueue} (h : q.Sound) : q.entries.length ≤ 32 := by
  have hes := sound_entries h
  have hsplit := List.length_eq_length_filter_add (l := q.entries) fun e => e.orphan
  have horphans : (q.entries.filter (fun e => e.orphan)).length ≤ 1 := by
    have hle := List.countP_mono_left fun e he ho => (hes.orphans e he ho).1
    rw [List.countP_eq_length_filter, List.countP_eq_length_filter] at hle
    exact hle.trans hes.flying
  have hgroups := length_eq_sum_groups q.entries
  have := hes.quota .membership
  have := hes.quota .presence
  have := hes.quota .stream
  have := hes.quota .declinePlace
  have := hes.quota .revocation
  have := hes.quota .lease
  simp only [TxGroup.quota] at *
  omega

/-! ## Slots and their frames (R34, R36, R39 to R56) -/

section
variable {s : State} (h : s.tx.Sound)
include h

theorem withdrawSlotFrame_sound (sl : Slot) : (s.withdrawSlotFrame sl).2.tx.Sound := by
  unfold State.withdrawSlotFrame
  split
  · exact h
  · exact withdraw_sound h _

theorem endSlot_sound (i : Fin 8) (es : List EventRecord) : (s.endSlot i es).tx.Sound := by
  have htx : (s.endSlot i es).tx = s.tx := by simp
  rwa [htx]

theorem endEnding_sound (i : Fin 8) (sl : Slot) : (s.endEnding i sl).tx.Sound := by
  have htx : (s.endEnding i sl).tx = s.tx := by simp
  rwa [htx]

theorem queueDrop_sound (i : Fin 8) (sl : Slot) (g : Word16) : (s.queueDrop i sl g).tx.Sound := insert_sound h _

theorem queueWithdraw_sound (i : Fin 8) (sl : Slot) : (s.queueWithdraw i sl).tx.Sound := insert_sound h _

theorem endHeldSlot_sound (i : Fin 8) (sl : Slot) (answer : Option FollowingAnswer) : (s.endHeldSlot i sl answer).tx.Sound := by
  have hw := withdrawSlotFrame_sound h sl
  simp only [State.endHeldSlot]
  split
  · exact hw
  · exact endSlot_sound hw i _

theorem reportSending_sound (i : Fin 8) (sl : Slot) (rep : Report) : (s.reportSending i sl rep).tx.Sound := by
  cases rep with
  | granted =>
    simp only [State.reportSending]
    split
    · exact queueDrop_sound h i _ _
    · exact h
  | queued =>
    simp only [State.reportSending]
    split
    · exact queueWithdraw_sound h i _
    · exact h
  | denied => exact endSlot_sound h i _
  | rejected =>
    simp only [State.reportSending]
    split
    · exact endSlot_sound h i _
    · exact h
  | dropApplied | dropStale | extendApplied | extendStale | withdrawFromWait | withdrawAsDrop | withdrawStale | revoked => exact h

theorem reportWaiting_sound (i : Fin 8) (sl : Slot) (rep : Report) : (s.reportWaiting i sl rep).tx.Sound := by
  cases rep <;> exact h

theorem reportHeld_sound (i : Fin 8) (sl : Slot) (rep : Report) : (s.reportHeld i sl rep).tx.Sound := by
  cases rep with
  | revoked => exact endSlot_sound h i _
  | granted | queued | denied | rejected | dropApplied | dropStale | extendApplied | extendStale | withdrawFromWait | withdrawAsDrop
  | withdrawStale => exact h

theorem reportRenewing_sound (i : Fin 8) (sl : Slot) (rep : Report) : (s.reportRenewing i sl rep).tx.Sound := by
  cases rep with
  | revoked => exact endHeldSlot_sound (s := s.place _) h i sl _
  | extendStale => exact endSlot_sound h i _
  | rejected =>
    simp only [State.reportRenewing]
    split <;> exact h
  | extendApplied | granted | queued | denied | dropApplied | dropStale | withdrawFromWait | withdrawAsDrop | withdrawStale => exact h

theorem reportReleasing_sound (i : Fin 8) (sl : Slot) (rep : Report) : (s.reportReleasing i sl rep).tx.Sound := by
  cases rep with
  | dropApplied | dropStale => exact endSlot_sound h i _
  | revoked => exact endHeldSlot_sound h i sl _
  | rejected =>
    simp only [State.reportReleasing]
    split
    · exact queueDrop_sound h i sl _
    · exact h
  | granted | queued | denied | extendApplied | extendStale | withdrawFromWait | withdrawAsDrop | withdrawStale => exact h

theorem reportWithdrawing_sound (i : Fin 8) (sl : Slot) (rep : Report) : (s.reportWithdrawing i sl rep).tx.Sound := by
  cases rep with
  | withdrawFromWait | withdrawAsDrop | withdrawStale => exact endSlot_sound h i _
  | rejected =>
    simp only [State.reportWithdrawing]
    split
    · exact queueWithdraw_sound h i sl
    · exact h
  | revoked =>
    simp only [State.reportWithdrawing]
    split
    · exact endHeldSlot_sound h i sl _
    · exact h
  | granted | queued | denied | dropApplied | dropStale | extendApplied | extendStale => exact h

theorem reportWithdrawingDrop_sound (i : Fin 8) (sl : Slot) (rep : Report) : (s.reportWithdrawingDrop i sl rep).tx.Sound := by
  cases rep with
  | dropApplied | dropStale => exact endSlot_sound h i _
  | rejected =>
    simp only [State.reportWithdrawingDrop]
    split
    · exact queueDrop_sound h i sl _
    · exact h
  | revoked =>
    simp only [State.reportWithdrawingDrop]
    split
    · exact endHeldSlot_sound h i sl _
    · exact h
  | granted | queued | denied | extendApplied | extendStale | withdrawFromWait | withdrawAsDrop | withdrawStale => exact h

theorem reportLapsedDrop_sound (i : Fin 8) (sl : Slot) (rep : Report) : (s.reportLapsedDrop i sl rep).tx.Sound := by
  cases rep with
  | dropApplied | dropStale => exact endSlot_sound h i _
  | revoked => exact endHeldSlot_sound h i sl _
  | rejected =>
    simp only [State.reportLapsedDrop]
    split
    · exact queueDrop_sound h i sl _
    · exact h
  | granted | queued | denied | extendApplied | extendStale | withdrawFromWait | withdrawAsDrop | withdrawStale => exact h

theorem reportLapsedExtend_sound (i : Fin 8) (sl : Slot) (rep : Report) : (s.reportLapsedExtend i sl rep).tx.Sound := by
  cases rep with
  | extendApplied => exact queueDrop_sound h i _ _
  | extendStale => exact endSlot_sound h i _
  | rejected =>
    simp only [State.reportLapsedExtend]
    split
    · exact queueDrop_sound h i sl _
    · exact h
  | granted | queued | denied | dropApplied | dropStale | revoked | withdrawFromWait | withdrawAsDrop | withdrawStale => exact h

theorem reportEnding_sound (i : Fin 8) (sl : Slot) (rep : Report) : (s.reportEnding i sl rep).tx.Sound := by
  unfold State.reportEnding
  split
  · split
    · exact endEnding_sound h i sl
    · exact h
  · exact h

theorem claimReport_sound (rep : Report) : (s.claimReport rep).tx.Sound := by
  unfold State.claimReport
  split
  · exact h
  · rename_i i _
    simp only
    cases (s.slot i).state with
    | empty => exact h
    | sending => exact reportSending_sound h i _ rep
    | waiting => exact reportWaiting_sound h i _ rep
    | held => exact reportHeld_sound h i _ rep
    | renewing => exact reportRenewing_sound h i _ rep
    | releasing => exact reportReleasing_sound h i _ rep
    | withdrawing =>
      simp only
      split
      · exact reportWithdrawingDrop_sound h i _ rep
      · exact reportWithdrawing_sound h i _ rep
    | lapsed =>
      simp only
      split
      · exact reportLapsedExtend_sound h i _ rep
      · exact reportLapsedDrop_sound h i _ rep
    | ending => exact reportEnding_sound h i _ rep

theorem claimDiscarded_sound (k : LeaseKind) (r : ResNo) : (s.claimDiscarded k r).tx.Sound := by
  unfold State.claimDiscarded
  split
  · exact h
  · rename_i i _
    simp only
    split
    · cases (s.slot i).state with
      | sending =>
        simp only
        split
        · exact endSlot_sound h i _
        · exact h
      | lapsed =>
        simp only
        split
        · exact queueDrop_sound h i _ _
        · exact h
      | ending => exact endEnding_sound h i _
      | empty | waiting | held | renewing | releasing | withdrawing => exact h
    · exact h

theorem selfExpire_sound (i : Fin 8) : (s.selfExpire i).tx.Sound := by
  simp only [State.selfExpire]
  cases (s.slot i).state with
  | held => exact queueDrop_sound (s := s.place _) h i _ _
  | renewing =>
    have hw := withdrawSlotFrame_sound
      (s := (s.place ((s.slot i).lost (s.slot i).grantNumber detailLostLapsed)).place ((s.slot i).renewLate detailLateLapsed)) h (s.slot i)
    simp only
    split
    · exact hw
    · exact queueDrop_sound hw i _ _
  | empty | sending | waiting | releasing | withdrawing | lapsed | ending => exact h

end

theorem claimReports_sound (reps : List Report) {s : State} (h : s.tx.Sound) : (s.claimReports reps).tx.Sound := by
  induction reps generalizing s with
  | nil => exact h
  | cons rep reps ih => exact ih (claimReport_sound h rep)

theorem withdrawAll_sound (ids : List FrameId) {s : State} (h : s.tx.Sound) : (s.withdrawAll ids).tx.Sound := by
  induction ids generalizing s with
  | nil => exact h
  | cons id ids ih => exact ih (s := (s.withdrawFrame id).2) (withdraw_sound h id)

theorem queueRevokes_sound (l : List (Nat × Holder)) {s : State} (h : s.tx.Sound) : (s.queueRevokes l).tx.Sound := by
  induction l generalizing s with
  | nil => exact h
  | cons p l ih =>
    obtain ⟨r, holder⟩ := p
    simp only [State.queueRevokes]
    split
    · exact ih (insert_sound h _)
    · exact h

/-! ## Membership (R82 to R93, R97, R100 to R112, R121 to R128) -/

section
variable {s : State} (h : s.tx.Sound)
include h

theorem serviceRevocations_sound : s.serviceRevocations.tx.Sound := by
  unfold State.serviceRevocations
  split
  · exact queueRevokes_sound _ h
  · exact h

theorem queueOwn_sound (k : OwnKind) : (s.queueOwn k).tx.Sound := by
  unfold State.queueOwn
  split
  · exact insert_sound h _
  · exact h

theorem ownLeft_sound : s.ownLeft.tx.Sound := by
  unfold State.ownLeft
  split
  · exact h
  · simp only
    split
    · exact h
    · exact queueOwn_sound (s := { s with member := { s.member with own := none } }) h _

theorem withdrawOwn_sound : s.withdrawOwn.2.tx.Sound := by
  unfold State.withdrawOwn
  split
  · exact h
  · simp only
    split <;> exact withdraw_sound h _

theorem stopBeacons_sound : s.stopBeacons.tx.Sound := withdraw_sound h _

theorem askDepart_sound (p : Station) : (s.askDepart p).tx.Sound := by
  obtain ⟨-, ha⟩ | ⟨-, ha⟩ := s.askDepart_spec p <;> rw [ha] <;> exact withdraw_sound h _

theorem withdrawDepart_sound (p : Station) : (s.withdrawDepart p).tx.Sound := by
  unfold State.withdrawDepart
  split
  · exact askDepart_sound h p
  · exact h

theorem renewPresence_sound (p : Station) (stamp : Tick) : (s.renewPresence p stamp).tx.Sound := by
  simp only [State.renewPresence]
  split
  · exact h
  · exact withdrawDepart_sound (s := s.setPeer p _) h p

theorem departDiscarded_sound (p : Station) : (s.departDiscarded p).tx.Sound := by
  simp only [State.departDiscarded]
  split_ifs
  · exact h
  · exact insert_sound h _
  · exact h

theorem stationClear_sound (ev : EventRecord) : (s.stationClear ev).tx.Sound := by
  have htx : (s.place ev).clearTimebase.tx = s.tx := by simp
  have hclear : (s.stationClear ev).tx = (s.place ev).clearTimebase.tx.cleared := rfl
  rw [hclear, htx]
  exact cleared_sound h

theorem abandonEnds_sound : s.abandonEnds.tx.Sound := by
  have hcleared : (s.stationClear (s.joinRetry detailAbandoned)).tx.Sound := stationClear_sound h _
  unfold State.abandonEnds
  refine queueOwn_sound ?_ _
  exact hcleared

theorem enterLeaving_sound (tag : Byte) : (s.enterLeaving tag).tx.Sound := stopBeacons_sound h

theorem enterMute_sound (detail : Byte) (threshold : Nat) : (s.enterMute detail threshold).tx.Sound := by
  unfold State.enterMute
  cases s.member.state with
  | leaving => exact stationClear_sound (s := s.place _) h _
  | unconfigured | offline | mute => exact h
  | online | founding | listen | joining | catchup => exact stopBeacons_sound (s := s.place _) h

theorem enterOnline_sound : s.enterOnline.tx.Sound := by
  unfold State.enterOnline
  refine serviceRevocations_sound ?_
  exact h

theorem joinGroup_sound : s.joinGroup.tx.Sound := by
  unfold State.joinGroup
  refine queueOwn_sound (withdrawOwn_sound ?_) _
  exact h

theorem failAttempt_sound (reason : FailReason) : (s.failAttempt reason).tx.Sound := by
  unfold State.failAttempt
  refine queueOwn_sound ?_ _
  exact h

theorem closeAttempt_sound (reason : FailReason) : (s.closeAttempt reason).tx.Sound := by
  unfold State.closeAttempt
  split
  · exact stationClear_sound h _
  · exact h

theorem dropStream_sound : s.dropStream.tx.Sound := withdraw_sound h _

theorem closeAdmission_sound (gone : Station) : (s.closeAdmission gone).tx.Sound := by
  unfold State.closeAdmission
  split
  · exact h
  · simp only
    split_ifs
    · exact h
    · exact h
    · exact dropStream_sound (s := { s with member := _ }) h
    · exact h
    · exact h

theorem removeDeclines_sound (joiner : Station) : (s.removeDeclines joiner).tx.Sound :=
  withdraw_sound (sound_of_pending h ((sound_pending h).sublist (List.filter_sublist.map _))) _

theorem openAsAdmitter_sound (a : Admission) (time : Tick) : (s.openAsAdmitter a time).tx.Sound := by
  have hremoved := removeDeclines_sound h a.joiner
  simp only [State.openAsAdmitter]
  split
  · exact hremoved
  · exact insert_sound hremoved _

theorem nextStreamFrame_sound : s.nextStreamFrame.tx.Sound := by
  unfold State.nextStreamFrame
  split
  · simp only
    split <;> exact insert_sound h _
  · exact h
  · exact h

/-! ## A frame at a live replica and roster (R7) -/

theorem takeLease_sound (out : LeaseResult) : (s.takeLease out).tx.Sound :=
  withdrawAll_sound _ (claimReports_sound _ (s := { s with replica := out.replica }) h)

theorem finishApplication_sound (replay : Bool) : (s.finishApplication replay).tx.Sound := by
  simp only [State.finishApplication]
  split <;> exact serviceRevocations_sound h

theorem peerGone_sound (d : Delivered) (p : Station) (detail : Byte) (replay : Bool) : (s.peerGone d p detail replay).tx.Sound := by
  have hgone := closeAdmission_sound (s := s.setPeer p (s.peer p).depart) h p
  simp only [State.peerGone]
  split
  · exact takeLease_sound (s := State.placeAtOnce _ _) hgone _
  · exact takeLease_sound hgone _

theorem liveQuit_sound (d : Delivered) (replay : Bool) : (s.liveQuit d replay).tx.Sound := by
  unfold State.liveQuit State.ownQuit State.peerQuit
  split_ifs
  · exact h
  · exact stationClear_sound h _
  · exact abandonEnds_sound h
  · exact h
  · exact withdrawDepart_sound (peerGone_sound h d _ _ replay) _
  · exact h

theorem settleDepart_sound (d : Delivered) (p : Station) : (s.settleDepart d p).tx.Sound := by
  simp only [State.settleDepart]
  split <;> exact askDepart_sound h p

theorem liveDepart_sound (d : Delivered) (p : Station) (replay : Bool) : (s.liveDepart d p replay).tx.Sound := by
  unfold State.liveDepart
  split_ifs
  · exact h
  · exact settleDepart_sound (peerGone_sound h d p _ replay) d p
  · exact settleDepart_sound (s := s.countStale) h d p

theorem liveApply_sound (d : Delivered) (incarnation profile : Word16) : (s.liveApply d incarnation profile).tx.Sound := by
  unfold State.liveApply
  split
  · exact h
  · split
    · split
      · exact handDecline_sound h _
      · exact h
    · simp only
      split
      · refine openAsAdmitter_sound (renewPresence_sound ?_ _ _) _ _
        exact h
      · refine renewPresence_sound ?_ _ _
        exact h

theorem streamed_sound (d : Delivered) : (s.streamed d).tx.Sound := by
  have hheard := renewPresence_sound h d.sender d.stamp
  simp only [State.streamed]
  split
  · exact nextStreamFrame_sound hheard
  · exact hheard

theorem liveAdmit_sound (d : Delivered) (joiner : Station) (incarnation : Word16) : (s.liveAdmit d joiner incarnation).tx.Sound := by
  unfold State.liveAdmit
  split
  · exact streamed_sound h d
  · exact h

theorem liveSnapshot_sound (d : Delivered) (joiner : Station) : (s.liveSnapshot d joiner).tx.Sound := by
  unfold State.liveSnapshot
  split
  · exact streamed_sound h d
  · exact h

theorem liveSnapEnd_sound (d : Delivered) (joiner : Station) : (s.liveSnapEnd d joiner).tx.Sound := by
  have hheard := renewPresence_sound h d.sender d.stamp
  unfold State.liveSnapEnd
  split
  · extract_lets t closed
    split <;> exact hheard
  · exact h

theorem abandon_sound : s.abandon.tx.Sound := by
  let t : State := { s with member := { s.member with foundingPeriod := none, abandoning := true } }
  have ht : t.tx.Sound := h
  simp only [State.abandon]
  split
  · split
    · exact queueOwn_sound (dropStream_sound ht) _
    · exact queueOwn_sound ht _
  · exact queueOwn_sound ht _

theorem sampleBeacon_sound (d : Delivered) (b : BeaconBody) : (s.sampleBeacon d b).tx.Sound := by
  have htx : (s.sampleBeacon d b).tx = s.tx := by simp
  rwa [htx]

theorem compareDigest_sound (d : Delivered) (b : BeaconBody) (replay : Bool) : (s.compareDigest d b replay).tx.Sound := by
  have htx : (s.compareDigest d b replay).tx = s.tx := by simp
  rwa [htx]

theorem liveBeacon_sound (d : Delivered) (b : BeaconBody) (replay : Bool) : (s.liveBeacon d b replay).tx.Sound := by
  unfold State.liveBeacon State.unknownBeacon
  split_ifs
  · exact h
  · exact compareDigest_sound (renewPresence_sound (s := State.recordBeacon _ d b) (sampleBeacon_sound h d b) _ _) d b replay
  · exact abandon_sound h
  · exact h

theorem liveEffects_sound (d : Delivered) (replay : Bool) : (s.liveEffects d replay).tx.Sound := by
  unfold State.liveEffects
  cases d.frame with
  | claim | drop | extend | withdraw | revoke => exact takeLease_sound h _
  | quit => exact liveQuit_sound h d replay
  | depart p => exact liveDepart_sound h d p replay
  | found => exact h
  | apply i p => exact liveApply_sound h d i p
  | admitJoiner j i => exact liveAdmit_sound h d j i
  | decline => exact renewPresence_sound h _ _
  | snapshot j => exact liveSnapshot_sound h d j
  | snapEnd j => exact liveSnapEnd_sound h d j
  | beacon b => exact liveBeacon_sound h d b replay

theorem applyLive_sound (d : Delivered) (replay : Bool) : (s.applyLive d replay).tx.Sound :=
  finishApplication_sound (liveEffects_sound h d replay) replay

end

theorem replay_sound (ds : List Delivered) {s : State} (h : s.tx.Sound) : (s.replay ds).tx.Sound := by
  induction ds generalizing s with
  | nil => exact h
  | cons d ds ih => exact ih (applyLive_sound h d true)

/-! ## A frame handed inward (R158, R159, R101 to R127) -/

section
variable {s : State} (h : s.tx.Sound)
include h

theorem listenFrame_sound (d : Delivered) : (s.listenFrame d).tx.Sound := by
  unfold State.listenFrame
  cases d.frame with
  | beacon b =>
    simp only [State.listenBeacon]
    split
    · exact joinGroup_sound h
    · exact h
  | found i p =>
    simp only [State.listenFound]
    split_ifs
    · exact h
    · exact joinGroup_sound h
    · exact h
  | apply | quit | depart | admitJoiner | decline | snapshot | snapEnd | revoke | claim | drop | extend | withdraw => exact h

theorem joinerDeclined_sound (reason : Byte) : (s.joinerDeclined reason).tx.Sound := by
  unfold State.joinerDeclined
  split_ifs
  · exact h
  · exact stationClear_sound h _
  · exact stationClear_sound h _
  · exact h

theorem joinerAdmitted_sound (a : Attempt) (d : Delivered) (capture : Word16) (parts : Byte) (states : BitVec 32) :
    (s.joinerAdmitted a d capture parts states).tx.Sound := by
  unfold State.joinerAdmitted
  split_ifs
  · exact failAttempt_sound h _
  · exact failAttempt_sound h _
  · refine renewPresence_sound ?_ _ _
    exact h

theorem joinerSnapshot_sound (a : Attempt) (ap : AdmissionPart) (p : SnapshotPart) : (s.joinerSnapshot a ap p).tx.Sound := by
  unfold State.joinerSnapshot
  split
  · split
    · exact failAttempt_sound h _
    · exact h
  · exact failAttempt_sound h _
  · exact failAttempt_sound h _

theorem completeJoin_sound (a : Attempt) (ap : AdmissionPart) (b : Rebuild) (stamp : Tick) : (s.completeJoin a ap b stamp).tx.Sound := by
  have hreplayed : (State.replay { s with replica := (s.leaseContext a.stamp).loadReplica b (ap.capture + a.accepted + 1) s.replica }
      a.catchup).tx.Sound := replay_sound _ h
  have hheard := renewPresence_sound hreplayed ap.admitter stamp
  simp only [State.completeJoin]
  refine enterOnline_sound ?_
  exact hheard

theorem joinerSnapEnd_sound (a : Attempt) (ap : AdmissionPart) (digest : Word16) (stamp : Tick) :
    (s.joinerSnapEnd a ap digest stamp).tx.Sound := by
  unfold State.joinerSnapEnd
  split
  · split
    · exact completeJoin_sound h a ap _ stamp
    · exact failAttempt_sound h _
  · exact failAttempt_sound h _
  · exact failAttempt_sound h _

theorem storeFrame_sound (a : Attempt) (d : Delivered) : (s.storeFrame a d).tx.Sound := by
  unfold State.storeFrame
  split
  · exact failAttempt_sound h _
  · exact h

theorem attemptFrame_sound (a : Attempt) (d : Delivered) : (s.attemptFrame a d).tx.Sound := by
  unfold State.attemptFrame
  cases d.frame with
  | beacon => exact h
  | admitJoiner =>
    simp only
    split
    · exact joinerAdmitted_sound h a d _ _ _
    · exact h
  | decline b =>
    simp only
    split
    · exact joinerDeclined_sound h b.reason
    · exact h
  | snapshot j p =>
    cases a.admission with
    | none => exact h
    | some ap =>
      simp only
      split
      · exact joinerSnapshot_sound h a ap p
      · exact h
  | snapEnd j digest =>
    cases a.admission with
    | none => exact h
    | some ap =>
      simp only
      split
      · exact joinerSnapEnd_sound h a ap digest d.stamp
      · exact h
  | quit | depart =>
    simp only
    split
    · exact failAttempt_sound h _
    · exact storeFrame_sound h a d
  | found | apply | revoke | claim | drop | extend | withdraw => exact storeFrame_sound h a d

theorem joinerFrame_sound (d : Delivered) : (s.joinerFrame d).tx.Sound := by
  have htaken (a : Attempt) : ((s.setAttempt a).attemptFrame a d).tx.Sound := attemptFrame_sound (s := s.setAttempt a) h a d
  unfold State.joinerFrame
  split
  · split
    · split <;> exact h
    · exact h
  · split
    · split
      · exact closeAttempt_sound h _
      · exact h
    · exact htaken _
    · exact htaken _

theorem leavingFrame_sound (d : Delivered) : (s.leavingFrame d).tx.Sound := by
  unfold State.leavingFrame
  split
  · exact h
  · cases d.frame with
    | quit => exact stationClear_sound h _
    | found => exact queueOwn_sound h _
    | apply =>
      refine queueOwn_sound ?_ _
      exact h
    | depart | beacon | admitJoiner | decline | snapshot | snapEnd | revoke | claim | drop | extend | withdraw => exact h

theorem beaconDelivered_sound (d : Delivered) : (s.beaconDelivered d).tx.Sound := by
  unfold State.beaconDelivered
  split
  · split
    · exact insert_sound h _
    · exact h
  · exact h

theorem ownDelivered_sound (d : Delivered) : (s.ownDelivered d).tx.Sound := by
  unfold State.ownDelivered
  split
  · split
    · exact ownLeft_sound h
    · exact h
  · exact h

theorem routeFrame_sound (d : Delivered) : (s.routeFrame d).tx.Sound := by
  unfold State.routeFrame
  cases s.member.state with
  | unconfigured | offline => exact h
  | listen => exact listenFrame_sound h d
  | joining | catchup => exact joinerFrame_sound h d
  | founding | online => exact applyLive_sound h d false
  | mute =>
    simp only
    split
    · exact applyLive_sound h d false
    · exact h
  | leaving =>
    simp only
    split
    · exact applyLive_sound h d false
    · exact leavingFrame_sound h d

theorem receive_sound (d : Delivered) : (s.receive d).tx.Sound := by
  unfold State.receive
  extract_lets taken noted cleared t
  have htaken : taken.tx.Sound := by
    simp only [taken]
    split
    · exact delivered_sound h _
    · exact h
  have ht : t.tx.Sound := ownDelivered_sound (beaconDelivered_sound htaken d) d
  split
  · split
    · exact routeFrame_sound (s := cleared) htaken d
    · exact htaken
  · split
    · exact stationClear_sound ht _
    · exact routeFrame_sound ht d

theorem deliver_sound (k : FrameKind) : (s.deliver k).tx.Sound := by
  obtain ⟨-, hd⟩ | ⟨d, rest, -, -, hd⟩ := s.deliver_spec k <;> rw [hd]
  · exact h
  · exact receive_sound (s := s.dropDelivery) h d

/-! ## The Command Engine (R98, R100, R124, R38) -/

theorem configure_sound (r : CommandRecord) : (s.configure r).tx.Sound := by
  have htx : (s.configure r).tx = s.tx := by simp [State.configure]
  rwa [htx]

theorem leaveByQuit_sound (tag : Byte) : (s.leaveByQuit tag).tx.Sound := by
  have hleaving := enterLeaving_sound h tag
  simp only [State.leaveByQuit]
  split
  · exact hleaving
  · exact queueOwn_sound hleaving _

theorem leaveEarly_sound (tag : Byte) : (s.leaveEarly tag).tx.Sound := by
  have hasked := withdrawOwn_sound h
  simp only [State.leaveEarly]
  split
  · exact enterLeaving_sound hasked tag
  · exact stationClear_sound hasked _

theorem startLeave_sound (tag : Byte) : (s.startLeave tag).tx.Sound := by
  unfold State.startLeave
  cases s.member.state with
  | online | founding | catchup => exact leaveByQuit_sound h tag
  | joining =>
    simp only
    split
    · exact leaveByQuit_sound h tag
    · exact leaveEarly_sound h tag
  | listen => exact leaveEarly_sound h tag
  | mute => exact stationClear_sound h _
  | unconfigured | offline | leaving => exact h

section
variable {t : State} {r : CommandRecord}

theorem actAcquire_sound (ht : s.actAcquire r = .ok t) : t.tx.Sound := by
  simp only [State.actAcquire] at ht
  split at ht
  · cases ht
  · split at ht <;> cases ht
    exact insert_sound h _

theorem actRenew_sound (ht : s.actRenew r = .ok t) : t.tx.Sound := by
  simp only [State.actRenew] at ht
  split at ht
  · cases ht
  · split at ht <;> cases ht
    exact insert_sound h _

theorem actRelease_sound (ht : s.actRelease r = .ok t) : t.tx.Sound := by
  simp only [State.actRelease] at ht
  split at ht
  · cases ht
  · split at ht <;> cases ht
    exact insert_sound h _

theorem actCancel_sound (ht : s.actCancel r = .ok t) : t.tx.Sound := by
  simp only [State.actCancel] at ht
  split at ht
  · cases ht
  · rename_i i _
    have hasked := withdrawSlotFrame_sound h (s.slot i)
    cases hst : (s.slot i).state with
    | sending =>
      simp only [hst] at ht
      split at ht
      · cases ht
      · split at ht <;> cases ht
        · exact hasked
        · exact endSlot_sound hasked i _
    | waiting =>
      simp only [hst] at ht
      cases ht
      exact insert_sound h _
    | empty | held | renewing | releasing | lapsed | withdrawing | ending =>
      simp only [hst] at ht
      cases ht

theorem acting_sound (k : CommandKind) (ht : LocalClaims.acting k r s = .ok t) : t.tx.Sound := by
  cases k with
  | configure =>
    obtain rfl := Except.ok.inj ht
    exact configure_sound h r
  | join =>
    obtain rfl := Except.ok.inj ht
    exact h
  | leave =>
    obtain rfl := Except.ok.inj ht
    exact startLeave_sound h r.tag
  | acquire => exact actAcquire_sound h ht
  | release => exact actRelease_sound h ht
  | renew => exact actRenew_sound h ht
  | cancel => exact actCancel_sound h ht

end

theorem serve_sound (k : CommandKind) (r : CommandRecord) : (s.serve k r (LocalClaims.acting k)).tx.Sound := by
  obtain ⟨-, hs⟩ | ⟨-, -, hs⟩ | ⟨-, -, ⟨t, ht, hs⟩ | ⟨reason, -, hs⟩⟩ := s.serve_spec k r (LocalClaims.acting k) <;> rw [hs]
  · exact h
  · exact h
  · exact acting_sound h k ht
  · exact h

theorem takeRecord_sound (k : CommandKind) : (s.takeRecord k (LocalClaims.acting k)).tx.Sound := by
  obtain ⟨-, ht⟩ | ⟨r, rest, -, -, ht⟩ := s.takeRecord_spec k (LocalClaims.acting k) <;> rw [ht]
  · exact h
  · exact serve_sound (s := State.dropCommand { s with host := { s.host with later := [] } }) h k r

theorem exec_taking_sound {t : State} (k : CommandKind) (ht : exec k.taking s = .next t) : t.tx.Sound := by
  rw [LocalClaims.exec_taking] at ht
  obtain rfl := Host.Outcome.next.inj ht
  exact takeRecord_sound h k

theorem badCommandRecord_sound {t : State} (ht : exec .badCommandRecord s = .next t) : t.tx.Sound := by
  obtain rfl := Host.Outcome.next.inj ht
  split
  · exact h
  · split <;> exact h

end

/-! ## SPI transactions (R166 to R184): the Host Port alone -/

section
variable (s : State)

/-- A transaction that leaves the Transmit Queue alone where a byte has been clocked and where it closes leaves it alone at every edge. -/
theorem spi_tx (e : SpiEdge) (owns : Byte → Bool) (latch : State → Transaction → Transaction) {byteDone closed : Transaction → State → State}
    (hbyte : ∀ t u, (byteDone t u).tx = u.tx) (hclosed : ∀ t u, (closed t u).tx = u.tx) : (s.spi e owns latch byteDone closed).tx = s.tx := by
  obtain hs | ⟨-, -, hs⟩ | ⟨t, ht, ⟨-, hs⟩ | ⟨b, -, -, hs⟩ | ⟨b, -, -, -, hs⟩ | ⟨b, a, -, -, -, hs⟩ | ⟨a, -, -, -, hs⟩⟩ :=
    s.spi_spec e owns latch byteDone closed <;> rw [hs]
  · rfl
  · rfl
  · rw [s.ignoreByte_spec t ht]; rfl
  · rfl
  · rw [hbyte]; rfl
  · rw [hclosed]; rfl

theorem noEffect_tx (t : Transaction) : (noEffect t s).tx = s.tx := rfl

theorem putClosed_tx (t : Transaction) : (putClosed t s).tx = s.tx := by unfold putClosed; split <;> rfl

theorem takeClocked_tx (t : Transaction) : (takeClocked t s).tx = s.tx := by unfold takeClocked; split <;> rfl

theorem viewNamed_tx (view : State → Byte → List Byte) (t : Transaction) : (viewNamed view t s).tx = s.tx := by unfold viewNamed; split <;> rfl

end

/-- The frame that starts keeps its identity, whatever a BEACON takes at its start bit (R65, R129). -/
theorem outgoing_id (s : State) (f : Frame) : (s.outgoing f).id = f.id := by cases f <;> rfl

/-! ## Expiries (R23, R43, R88, R82, R102 to R123) -/

section
variable {s t : State} (h : s.tx.Sound)
include h

theorem replicaExpiry_sound (r : Fin 64) (p : Station) : (s.replicaExpiry r p).tx.Sound := by
  unfold State.replicaExpiry
  split
  · split
    · simp only [State.expireHolder]
      split
      · exact insert_sound h _
      · exact h
    · exact h
  · exact h

theorem selfExpiry_sound {i : Fin 8} (ht : exec (.selfExpiry i) s = .next t) : t.tx.Sound := by
  obtain rfl := Host.Outcome.next.inj ht
  split
  · exact selfExpire_sound h i
  · exact h

theorem presenceExpiry_sound (p : Station) : (s.presenceExpiry p).tx.Sound := by
  simp only [State.presenceExpiry]
  split_ifs
  · exact h
  · exact insert_sound h _
  · exact h

theorem fireBeacon_sound : s.fireBeacon.tx.Sound := by
  have hrefreshed := refresh_sound h s.member.beaconCounter s.digest
  simp only [State.fireBeacon]
  split
  · exact hrefreshed
  · exact hrefreshed
  · exact insert_sound h _

theorem beaconSchedule_sound (ht : exec .beaconSchedule s = .next t) : t.tx.Sound := by
  obtain rfl := Host.Outcome.next.inj ht
  split
  · split
    · exact fireBeacon_sound (s := s.advanceBeacon _) h
    · exact h
  · exact h

theorem listenWindow_sound (ht : exec .listenWindow s = .next t) : t.tx.Sound := by
  obtain rfl := Host.Outcome.next.inj ht
  split
  · refine queueOwn_sound ?_ _
    exact h
  · exact h

theorem foundingPeriod_sound (ht : exec .foundingPeriod s = .next t) : t.tx.Sound := by
  obtain rfl := Host.Outcome.next.inj ht
  split
  · exact enterOnline_sound h
  · exact h

theorem joinAttemptTimer_sound (ht : exec .joinAttemptTimer s = .next t) : t.tx.Sound := by
  obtain rfl := Host.Outcome.next.inj ht
  split
  · exact failAttempt_sound h _
  · exact h

theorem joinBackoff_sound (ht : exec .joinBackoff s = .next t) : t.tx.Sound := by
  obtain rfl := Host.Outcome.next.inj ht
  split
  · refine queueOwn_sound ?_ _
    exact h
  · exact h

theorem roundEnd_sound (ht : exec .roundEnd s = .next t) : t.tx.Sound := by
  obtain rfl := Host.Outcome.next.inj ht
  split
  · split
    · rename_i d _ _
      have htx : (s.endRound d).tx = s.tx := by simp
      rwa [htx]
    · exact h
  · exact h

/-! ## The line and the ends of an attempt (R133 to R137, R143, R152, R155, R157, R162) -/

theorem ownDiscarded_sound (k : OwnKind) : (s.ownDiscarded k).tx.Sound := by
  unfold State.ownDiscarded
  split
  · exact stationClear_sound h _
  · exact ownLeft_sound h

theorem frameDiscarded_sound (id : FrameId) : (s.frameDiscarded id).tx.Sound := by
  cases id with
  | claim | drop | extend | withdraw => exact claimDiscarded_sound h _ _
  | revoke => exact serviceRevocations_sound h
  | depart p => exact departDiscarded_sound h p
  | found | apply | quit => exact ownDiscarded_sound h _
  | beacon | stream | decline => exact h

theorem orphanDiscarded_sound (id : FrameId) : (s.orphanDiscarded id).tx.Sound := by
  unfold State.orphanDiscarded
  split <;> exact h

theorem attemptLost_sound : s.attemptLost.tx.Sound := by
  let u : State := { s with tx := s.tx.lose.2 }
  have hlost : u.tx.Sound := lose_sound h
  simp only [State.attemptLost]
  split
  · exact hlost
  · exact refresh_sound hlost _ _
  · exact frameDiscarded_sound hlost _
  · exact orphanDiscarded_sound hlost _

theorem settleRate_sound : s.settleRate.tx.Sound := by
  have htx : s.settleRate.tx = s.tx := by simp
  rwa [htx]

theorem idleReport_sound : s.idleReport.tx.Sound := by
  obtain ⟨e, -, -, hnone, -, hs⟩ | ⟨-, hs⟩ := s.idleReport_spec <;> rw [hs]
  · have hwait : ∀ x ∈ s.tx.entries, x.inFlight = false := by simpa [TransmitQueue.flying?] using hnone
    exact start_sound h (outgoing_id s e.frame) hwait
  · exact h

theorem loseArbitration_sound (levels : List Level) : (s.loseArbitration levels).tx.Sound := by
  unfold State.loseArbitration
  split
  · exact h
  · split
    · exact h
    · split
      · exact settleRate_sound (attemptLost_sound (s := { s with line := _ }) h)
      · exact h

theorem acceptFrame_sound (levels : List Level) : (s.acceptFrame levels).tx.Sound := by
  unfold State.acceptFrame
  split
  · exact h
  · split
    · exact h
    · split
      · exact h
      · split
        · split
          · exact h
          · split
            · exact settleRate_sound (serviceRevocations_sound (s := { s with line := _, tx := s.tx.accept }) (accept_sound h))
            · exact h
        · exact h

theorem muteOnOwn_sound (counted : Bool) : (s.muteOnOwn counted).tx.Sound := by
  unfold State.muteOnOwn
  split
  · exact enterMute_sound h _ _
  · exact h

theorem muteOnIssued_sound (counted : Bool) : (s.muteOnIssued counted).tx.Sound := by
  unfold State.muteOnIssued
  split
  · exact enterMute_sound h _ _
  · exact h

theorem ownVetoed_sound (levels : List Level) (misread : Bool) : (s.ownVetoed levels misread).tx.Sound := by
  have hcounted (l : LineController) (counts : Bool) : (State.countOwnVeto { s with line := l } counts).tx.Sound := by
    have htx : (State.countOwnVeto { s with line := l } counts).tx = s.tx := by simp
    rwa [htx]
  exact settleRate_sound (muteOnOwn_sound (attemptLost_sound (hcounted _ _)) _)

/-- The issued-veto count touches no queue; muting may (R161, R162). -/
theorem issuedVetoes_sound (l : LineController) (counts : Bool) :
    ((State.countIssuedVeto { s with line := l } counts).muteOnIssued counts).tx.Sound := by
  have htx : (State.countIssuedVeto { s with line := l } counts).tx = s.tx := by simp
  exact muteOnIssued_sound (by rwa [htx]) _

theorem vetoFrame_sound (levels window : List Level) : (s.vetoFrame levels window).tx.Sound := by
  unfold State.vetoFrame
  split
  · exact h
  · split
    · split
      · exact ownVetoed_sound h _ _
      · exact h
    · split
      · exact issuedVetoes_sound h _ _
      · exact h

theorem missOrphan_sound (levels : List Level) : (s.missOrphan levels).tx.Sound := by
  unfold State.missOrphan
  split
  · exact h
  · refine settleRate_sound (orphanDiscarded_sound ?_ _)
    exact land_sound h

theorem missFrame_sound (levels : List Level) : (s.missFrame levels).tx.Sound := by
  unfold State.missFrame
  split
  · exact h
  · split
    · split
      · exact missOrphan_sound h levels
      · exact h
    · split
      · exact h
      · split_ifs
        · exact issuedVetoes_sound h _ _
        · exact h
        · exact h

theorem dominantRead_sound : s.dominantRead.tx.Sound := by
  unfold State.dominantRead
  cases s.line.phase <;> exact h

/-! ## Every command -/

theorem exec_sound (c : Instr) (ht : exec c s = .next t) : t.tx.Sound := by
  have hkept (htx : t.tx = s.tx) : t.tx.Sound := htx ▸ h
  cases c with
  | deviceReset =>
    obtain rfl := Host.Outcome.next.inj ht
    exact (sound_iff TransmitQueue.reset).mpr
      ⟨⟨Nat.zero_le _, fun g => Nat.zero_le _, List.nodup_nil, fun e he => absurd he List.not_mem_nil⟩, List.nodup_nil⟩
  | fineTick =>
    obtain rfl := Host.Outcome.next.inj ht
    split <;> exact h
  | putCommand e =>
    obtain rfl := Host.Outcome.next.inj ht
    exact hkept (spi_tx s e _ _ (fun t u => noEffect_tx u t) (fun t u => putClosed_tx u t))
  | takeEvent e =>
    obtain rfl := Host.Outcome.next.inj ht
    exact hkept (spi_tx s e _ _ (fun t u => takeClocked_tx u t) (fun t u => noEffect_tx u t))
  | readStatus e | voidAccess _ e =>
    obtain rfl := Host.Outcome.next.inj ht
    exact hkept (spi_tx s e _ _ (fun t u => noEffect_tx u t) (fun t u => noEffect_tx u t))
  | readLease e | readRoster e =>
    obtain rfl := Host.Outcome.next.inj ht
    exact hkept (spi_tx s e _ _ (fun t u => viewNamed_tx u _ t) (fun t u => noEffect_tx u t))
  | portReset e =>
    obtain rfl := Host.Outcome.next.inj ht
    exact hkept (spi_tx s e _ _ (fun t u => noEffect_tx u t) (fun _ _ => rfl))
  | badCommandRecord => exact badCommandRecord_sound h ht
  | configure => exact exec_taking_sound h .configure ht
  | join => exact exec_taking_sound h .join ht
  | leave => exact exec_taking_sound h .leave ht
  | acquire => exact exec_taking_sound h .acquire ht
  | release => exact exec_taking_sound h .release ht
  | renew => exact exec_taking_sound h .renew ht
  | cancel => exact exec_taking_sound h .cancel ht
  | frameStart =>
    obtain rfl := Host.Outcome.next.inj ht
    exact idleReport_sound h
  | arbitrationLoss levels =>
    obtain rfl := Host.Outcome.next.inj ht
    exact loseArbitration_sound h levels
  | frameAccepted levels =>
    obtain rfl := Host.Outcome.next.inj ht
    exact acceptFrame_sound h levels
  | frameVetoed read =>
    obtain rfl := Host.Outcome.next.inj ht
    split
    · exact h
    · exact vetoFrame_sound h _ _
  | missedFrame levels =>
    obtain rfl := Host.Outcome.next.inj ht
    exact missFrame_sound h levels
  | claimFrame | dropFrame | extendFrame | withdrawFrame | revokeFrame | quitFrame | departFrame | foundFrame | applyFrame | admitFrame
  | declineFrame | snapshotFrame | snapEndFrame | beaconFrame =>
    obtain rfl := Host.Outcome.next.inj ht
    exact deliver_sound h _
  | replicaDeadline r p =>
    obtain rfl := Host.Outcome.next.inj ht
    exact replicaExpiry_sound h r p
  | selfExpiry i => exact selfExpiry_sound h ht
  | presenceDeadline p =>
    obtain rfl := Host.Outcome.next.inj ht
    exact presenceExpiry_sound h p
  | beaconSchedule => exact beaconSchedule_sound h ht
  | listenWindow => exact listenWindow_sound h ht
  | foundingPeriod => exact foundingPeriod_sound h ht
  | joinAttemptTimer => exact joinAttemptTimer_sound h ht
  | joinBackoff => exact joinBackoff_sound h ht
  | roundEnd => exact roundEnd_sound h ht
  | lineIdle =>
    obtain rfl := Host.Outcome.next.inj ht
    exact h
  | startBitRead =>
    obtain rfl := Host.Outcome.next.inj ht
    exact dominantRead_sound h

end

/-- Settles O23: one case for each command, and the quotas added up. -/
theorem transmitQueueStaysSound : Obligations.TransmitQueueStaysSound :=
  ⟨fun c _ _ hs ht => exec_sound hs c ht, fun _ hq => length_le_of_sound hq⟩

/-! ## Requests to the queue (R129, R130, R135, R137, R140) -/

theorem group_eq_declinePlace (k : FrameKind) : k.group = .declinePlace ↔ k = .decline := by
  cases k <;> simp [FrameKind.group]

/-- The DECLINE place is free where no DECLINE but an orphan is in the queue. -/
theorem declinePlace_isEmpty_iff (q : TransmitQueue) :
    (q.inGroup .declinePlace).isEmpty = true ↔ ∀ y ∈ q.entries, y.orphan = false → y.frame.kind ≠ .decline := by
  simp [TransmitQueue.inGroup, List.filter_eq_nil_iff, group_eq_declinePlace]

/-- The free DECLINE place takes the oldest pending DECLINE (R140). -/
theorem refillDecline_free {q : TransmitQueue} {d : DeclineBody} {ds : List DeclineBody}
    (hfree : ∀ y ∈ q.entries, y.orphan = false → y.frame.kind ≠ .decline) (hp : q.pendingDeclines = d :: ds) :
    q.refillDecline = { q with entries := q.entries ++ [TxEntry.fresh (.decline d)], pendingDeclines := ds } := by
  simp only [TransmitQueue.refillDecline, (declinePlace_isEmpty_iff q).mpr hfree, if_true, hp]

theorem refillDecline_taken {q : TransmitQueue} (htaken : ¬ ∀ y ∈ q.entries, y.orphan = false → y.frame.kind ≠ .decline) :
    q.refillDecline = q := if_neg (mt (declinePlace_isEmpty_iff q).mp htaken)

theorem refillDecline_of_no_pending {q : TransmitQueue} (hp : q.pendingDeclines = []) : q.refillDecline = q := by
  obtain hr | ⟨d, ds, hcons, -⟩ := q.refillDecline_spec
  · exact hr
  · rw [hp] at hcons
    cases hcons

/-- The entries without the one that passes a test. -/
theorem filter_not_eq {before after : List TxEntry} {e : TxEntry} (p : TxEntry → Bool) (he : p e = false)
    (hothers : ∀ x ∈ before ++ after, p x = true) : (before ++ e :: after).filter p = before ++ after := by
  rw [List.filter_append, List.filter_cons_of_neg (by simp [he]), ← List.filter_append]
  exact List.filter_eq_self.mpr hothers

section
variable {q : TransmitQueue} {id : FrameId} {before after : List TxEntry} {x : TxEntry} (hq : q.entries = before ++ x :: after)
  (ho : x.orphan = false) (hid : x.frame.id = id) (hothers : ∀ y ∈ before ++ after, y.orphan = false → y.frame.id ≠ id)
include hq ho hid hothers

/-- A withdrawal marks the entry on the line (R135, R137). -/
theorem withdraw_onLine (hfly : x.inFlight = true) : q.withdraw id
    = (.onLine, { q with entries := before ++ { x with withdrawn := true, returnNotice := false } :: after }) := by
  have hmap := RosterPresence.map_ite_eq (before := before) (after := after) (e := x) (fun y => !y.orphan && y.frame.id == id)
    (fun y => { y with withdrawn := true, returnNotice := false }) (by simp [ho, hid]) (fun y hy => by simpa using hothers y hy)
  simp only [TransmitQueue.withdraw, RosterPresence.find?_eq_some hq ho hid hothers, hfly, if_true, hq, hmap]

/-- A withdrawal removes the entry that waits, which may free the DECLINE place (R135, R140). -/
theorem withdraw_removed (hwait : x.inFlight = false) :
    q.withdraw id = (.removed, TransmitQueue.refillDecline { q with entries := before ++ after }) := by
  have hfilter := filter_not_eq (before := before) (after := after) (e := x) (fun y => y.orphan || y.frame.id != id) (by simp [ho, hid])
    (fun y hy => by
      cases hoy : y.orphan with
      | true => rfl
      | false => simpa using hothers y hy hoy)
  simp only [TransmitQueue.withdraw, RosterPresence.find?_eq_some hq ho hid hothers, hwait, Bool.false_eq_true, if_false, hq, hfilter]

end

section
variable {q : TransmitQueue} {d : DeclineBody}

/-- A DECLINE handed over replaces the one that waits for the same joiner in its place (R140). -/
theorem handDecline_replaces {before after : List TxEntry} {x : TxEntry} (hq : q.entries = before ++ x :: after) (ho : x.orphan = false)
    (hid : x.frame.id = .decline d.joiner) (hothers : ∀ y ∈ before ++ after, y.orphan = false → y.frame.id ≠ .decline d.joiner)
    (hwait : x.inFlight = false) : q.handDecline d = { q with entries := before ++ { x with frame := .decline d } :: after } := by
  have hmap := RosterPresence.map_ite_eq (before := before) (after := after) (e := x) (fun y => !y.orphan && y.frame.id == .decline d.joiner)
    (fun y => { y with frame := .decline d }) (by simp [ho, hid]) (fun y hy => by simpa using hothers y hy)
  simp only [TransmitQueue.handDecline, RosterPresence.find?_eq_some hq ho hid hothers, hwait, Bool.false_eq_true, if_false, hq, hmap]

/-- One for a joiner whose DECLINE is on the line joins the pending set (R140). -/
theorem handDecline_pends {x : TxEntry} (hfind : q.find? (.decline d.joiner) = some x) (hfly : x.inFlight = true) :
    q.handDecline d = q.pend d := by
  simp only [TransmitQueue.handDecline, hfind, hfly, if_true]

/-- One for another joiner takes the free DECLINE place, or joins the pending set (R140). -/
theorem handDecline_new (hfind : q.find? (.decline d.joiner) = none) :
    q.handDecline d = if (q.inGroup .declinePlace).isEmpty then { q with entries := q.entries ++ [TxEntry.fresh (.decline d)] } else q.pend d := by
  simp only [TransmitQueue.handDecline, hfind]

end

/-- The pending set keeps one place for a joiner (R140). -/
theorem pend_eq (q : TransmitQueue) (d : DeclineBody) : q.pend d = { q with
    pendingDeclines := if q.pendingDeclines.any (fun p => p.joiner == d.joiner)
      then q.pendingDeclines.map (fun p => if p.joiner = d.joiner then d else p) else q.pendingDeclines ++ [d] } := by
  unfold TransmitQueue.pend
  split <;> rfl

/-- Settles O24: each request, by what the queue holds of its identity. -/
theorem transmitQueueAnswersItsRequests : Obligations.TransmitQueueAnswersItsRequests := by
  intro q fresh none_ placeFree pended
  have hpended (d : DeclineBody) : q.pend d = pended d := pend_eq q d
  refine ⟨fun f => ?_, fun id before after x hq ho hid hothers => ?_, fun id hnone => ?_, fun number digest hnone => ?_, fun d hnone => ?_⟩
  · intro room
    obtain ⟨hlt, hnew, hi⟩ | ⟨hfull, hi⟩ := q.insert_spec f
    · have hroom : room := ⟨hlt, TransmitQueue.find?_none hnew⟩
      exact ⟨fun _ => hi, fun hn => absurd hroom hn⟩
    · refine ⟨fun ⟨hlt, hnew⟩ => ?_, fun _ => hi⟩
      obtain hge | hsome := hfull
      · exact absurd hlt (Nat.not_lt.mpr hge)
      · rw [RosterPresence.find?_eq_none hnew] at hsome
        cases hsome
  · have hfind := RosterPresence.find?_eq_some hq ho hid hothers
    have hremoved := withdraw_removed hq ho hid hothers
    refine ⟨withdraw_onLine hq ho hid hothers, fun hwait htaken => ?_, fun hwait hp => ?_, fun d ds hwait hfree hp => ?_,
      fun b number digest hb => ?_, fun d hd => ?_⟩
    · exact (hremoved hwait).trans (congrArg (Prod.mk _) (refillDecline_taken htaken))
    · exact (hremoved hwait).trans (congrArg (Prod.mk _) (refillDecline_of_no_pending hp))
    · exact (hremoved hwait).trans (congrArg (Prod.mk _) (refillDecline_free hfree hp))
    · obtain rfl : id = .beacon := by rw [← hid, hb]; rfl
      exact ⟨fun hwait => RosterPresence.refresh_waiting hq hb ho hothers hwait number digest,
        fun hfly => RosterPresence.refresh_flying hq hb ho hothers hfly number digest⟩
    · obtain rfl : id = .decline d.joiner := hid.symm.trans hd
      exact ⟨handDecline_replaces hq ho hid hothers, fun hfly => (handDecline_pends hfind hfly).trans (hpended d)⟩
  · have hfind := RosterPresence.find?_eq_none hnone
    obtain ⟨e, he, -⟩ | ⟨e, he, -⟩ | ⟨-, hin, hw⟩ | ⟨-, hout, hw⟩ := q.withdraw_spec id
    · rw [hfind] at he; cases he
    · rw [hfind] at he; cases he
    · rw [hw, if_pos hin]
    · rw [hw, if_neg hout]
  · simp only [TransmitQueue.refresh, RosterPresence.find?_eq_none hnone]
  · rw [handDecline_new (RosterPresence.find?_eq_none hnone)]
    exact ⟨fun hfree => if_pos ((declinePlace_isEmpty_iff q).mpr hfree),
      fun htaken => (if_neg (mt (declinePlace_isEmpty_iff q).mp htaken)).trans (hpended d)⟩

/-! ## Reading a level (R149, R150, R154) -/

theorem note_eq (rx : Rx) (bad : Bool) (f : LineFault) :
    rx.note bad f = { rx with fault := if bad && rx.fault.isNone then some f else rx.fault } := by
  unfold Rx.note
  split <;> rfl

/-- A fault found stays the one recorded (R154). -/
theorem note_fault_of_some {rx : Rx} {x : LineFault} (h : rx.fault = some x) (bad : Bool) (f : LineFault) : (rx.note bad f).fault = some x := by
  simp [note_eq, h]

theorem checkFields_fault_of_some {rx : Rx} {x : LineFault} (h : rx.fault = some x) : rx.checkFields.fault = some x := by
  unfold Rx.checkFields
  split_ifs
  · exact note_fault_of_some h _ _
  · refine note_fault_of_some ?_ _ _
    exact h
  · exact note_fault_of_some h _ _
  · exact h

theorem feed_fault_of_some {rx : Rx} {x : LineFault} (h : rx.fault = some x) (b : Level) : (rx.feed b).fault = some x := by
  simp only [Rx.feed]
  split
  · refine note_fault_of_some ?_ _ _
    exact h
  · exact checkFields_fault_of_some h

/-- The level read where an inserted bit is due is taken out; the same level again is a violation (R149). -/
theorem feed_inserted {rx : Rx} (hrun : rx.runLen = 6) (b : Level) : rx.feed b
    = Rx.note { rx with runLevel := b, runLen := 1, recessive := if b then rx.recessive + 1 else 0 } (b == rx.runLevel) .insertedBit := by
  simp [Rx.feed, hrun, Config.insertAfter]

/-- The run once one more bit is sent or read (R149). -/
def nextRun (lvl : Level) (run : Nat) (b : Level) : Nat := if b = lvl then run + 1 else 1

/-- The decode with one more bit of the body, before the checks that the bit may complete (R149, R150). -/
def joined (rx : Rx) (b : Level) : Rx :=
  { rx with
    bits := b :: rx.bits
    runLevel := b
    runLen := nextRun rx.runLevel rx.runLen b
    recessive := if b then rx.recessive + 1 else 0
    crc := if 0 < rx.bits.length && (rx.payloadLen.isNone || rx.bits.length < rx.located - 16) then crcBits rx.crc [b] else rx.crc }

theorem feed_joined {rx : Rx} (hrun : rx.runLen ≠ 6) (b : Level) : rx.feed b = (joined rx b).checkFields := by
  simp [Rx.feed, hrun, Config.insertAfter, joined, nextRun]

/-- Before the kind is complete a bit of the body completes no field (R150). -/
theorem feed_early {rx : Rx} (hlen : rx.bits.length < 10) (hp : rx.payloadLen = none) (hrun : rx.runLen ≠ 6) (b : Level) :
    rx.feed b = joined rx b := by
  have hbits : (joined rx b).bits.length = rx.bits.length + 1 := rfl
  have hnone : (joined rx b).payloadLen = none := hp
  rw [feed_joined hrun]
  unfold Rx.checkFields
  rw [if_neg (by omega), if_neg (by omega), if_neg (by simp [hnone])]

/-- Levels read before the kind is complete, too few for an inserted bit to come due: they are the bits decoded, without fault, and the run has
grown by each of them only if they all are of its level. -/
theorem foldl_feed_early (ls : List Level) {rx : Rx} (hlen : rx.bits.length + ls.length ≤ 10) (hp : rx.payloadLen = none)
    (hpos : 0 < rx.runLen) (hrun : rx.runLen + ls.length ≤ 6) :
    (ls.foldl Rx.feed rx).bits = ls.reverse ++ rx.bits ∧ (ls.foldl Rx.feed rx).payloadLen = none
      ∧ (ls.foldl Rx.feed rx).fault = rx.fault
      ∧ ((ls.foldl Rx.feed rx).runLen < rx.runLen + ls.length
        ∨ ((ls.foldl Rx.feed rx).runLen = rx.runLen + ls.length ∧ ls = List.replicate ls.length rx.runLevel)) := by
  induction ls generalizing rx with
  | nil => exact ⟨rfl, hp, rfl, .inr ⟨rfl, rfl⟩⟩
  | cons b ls ih =>
    simp only [List.length_cons] at hlen hrun
    have hfeed : rx.feed b = joined rx b := feed_early (by omega) hp (by omega) b
    have hrun' : (joined rx b).runLen = if b = rx.runLevel then rx.runLen + 1 else 1 := rfl
    have hle : (joined rx b).runLen ≤ rx.runLen + 1 := by rw [hrun']; split <;> omega
    obtain ⟨hbits, hnone, hfault, hlast⟩ := ih (rx := joined rx b) (by simp only [joined, List.length_cons]; omega) hp
      (by rw [hrun']; split <;> omega) (by omega)
    rw [List.foldl_cons, hfeed]
    refine ⟨by rw [hbits]; simp [joined], hnone, hfault, ?_⟩
    obtain hlt | ⟨heq, hrep⟩ := hlast
    · exact .inl (by rw [List.length_cons]; omega)
    · by_cases hb : b = rx.runLevel
      · rw [if_pos hb] at hrun'
        refine .inr ⟨by rw [List.length_cons]; omega, ?_⟩
        rw [List.length_cons, List.replicate_succ, ← hb]
        exact congrArg (b :: ·) hrep
      · rw [if_neg hb] at hrun'
        exact .inl (by rw [List.length_cons]; omega)

/-! ## The key as sent (R149, R151, R152) -/

/-- The levels of a key on the line after the start bit, the inserted one among them (R149). -/
def sentKey (key : List Level) : List Level := (insertBits true 0 (false :: key)).drop 1

theorem insertBits_due {lvl b : Level} {run : Nat} (h : nextRun lvl run b = 6) (bs : List Level) :
    insertBits lvl run (b :: bs) = b :: (!b) :: insertBits (!b) 1 bs := if_pos h

theorem insertBits_not_due {lvl b : Level} {run : Nat} (h : nextRun lvl run b ≠ 6) (bs : List Level) :
    insertBits lvl run (b :: bs) = b :: insertBits b (nextRun lvl run b) bs := if_neg h

/-- What is sent first is sent whatever follows. -/
theorem insertBits_append (as bs : List Level) (lvl : Level) (run : Nat) :
    ∃ lvl' run', insertBits lvl run (as ++ bs) = insertBits lvl run as ++ insertBits lvl' run' bs := by
  induction as generalizing lvl run with
  | nil => exact ⟨lvl, run, rfl⟩
  | cons a as ih =>
    by_cases hdue : nextRun lvl run a = 6
    · obtain ⟨lvl', run', h⟩ := ih (!a) 1
      exact ⟨lvl', run', by rw [List.cons_append, insertBits_due hdue, insertBits_due hdue, h]; rfl⟩
    · obtain ⟨lvl', run', h⟩ := ih a (nextRun lvl run a)
      exact ⟨lvl', run', by rw [List.cons_append, insertBits_not_due hdue, insertBits_not_due hdue, h]; rfl⟩

/-- A body goes out as its key and what follows. -/
theorem encodeBody_key (sender : Station) (f : Frame) :
    ∃ rest, (encodeBody sender f).drop 1 = sentKey (natBits 2 f.kind.cls ++ natBits 4 sender.val) ++ rest := by
  set key := natBits 2 f.kind.cls ++ natBits 4 sender.val with hkey
  obtain ⟨more, hplain⟩ : ∃ more, plainBody sender f = (false :: key) ++ more :=
    ⟨natBits 4 f.kind.code ++ natBits 6 f.payload.length ++ bytesBits f.payload
      ++ natBits 16 (crcBits crcPreset (coveredBits sender f)).toNat, by simp [plainBody, coveredBits, hkey]⟩
  obtain ⟨lvl, run, h⟩ := insertBits_append (false :: key) more true 0
  refine ⟨insertBits lvl run more, ?_⟩
  rw [encodeBody, hplain, h, sentKey, insertBits_not_due (by decide)]
  rfl

/-- A key of six bits goes out as it is, at most one dominant bit inserted behind it, unless its first five are dominant: with the start bit they
make six, and a recessive bit is inserted before the last. -/
theorem sentKey_mixed : ∀ a b c d e g : Bool, [a, b, c, d, e] ≠ List.replicate 5 false →
    sentKey [a, b, c, d, e, g] = [a, b, c, d, e, g] ∨ sentKey [a, b, c, d, e, g] = [a, b, c, d, e, g] ++ [false] := by
  decide

theorem sentKey_dominant : ∀ g : Bool, sentKey [false, false, false, false, false, g] = List.replicate 5 false ++ [true, g] := by
  decide

/-- Where a key can lose arbitration: at a recessive bit of its own, behind the bits before it, or, its first five bits being dominant, at the bit
inserted behind them or at its last bit. -/
theorem sentKey_recessive {key : List Level} {k : Nat} (hkey : key.length = 6) (hk : (sentKey key)[k]? = some true) :
    (key.take 5 ≠ List.replicate 5 false ∧ k ≤ 5 ∧ (sentKey key).take k = key.take k)
      ∨ (key.take 5 = List.replicate 5 false ∧ (k = 5 ∧ (sentKey key).take k = List.replicate 5 false
        ∨ k = 6 ∧ (sentKey key).take k = List.replicate 5 false ++ [true])) := by
  match key, hkey with
  | [a, b, c, d, e, g], _ =>
    by_cases hzero : [a, b, c, d, e] = List.replicate 5 false
    · refine .inr ⟨hzero, ?_⟩
      simp only [List.replicate, List.cons.injEq, and_true] at hzero
      obtain ⟨rfl, rfl, rfl, rfl, rfl⟩ := hzero
      rw [sentKey_dominant] at hk ⊢
      match k, hk with
      | 5, _ => exact .inl ⟨rfl, rfl⟩
      | 6, _ => exact .inr ⟨rfl, rfl⟩
    · have hlt : k < 6 ∧ (sentKey [a, b, c, d, e, g]).take k = [a, b, c, d, e, g].take k := by
        obtain h | h := sentKey_mixed a b c d e g hzero <;> rw [h] at hk ⊢
        · exact ⟨(List.getElem?_eq_some_iff.mp hk).1, rfl⟩
        · have hk6 : k < 6 := by
            have hlen := (List.getElem?_eq_some_iff.mp hk).1
            have hne : k ≠ 6 := by rintro rfl; simp at hk
            simp at hlen
            omega
          exact ⟨hk6, List.take_append_of_le_length (by simpa using hk6.le)⟩
      exact .inl ⟨hzero, by omega, hlt.2⟩

/-! ## The decode of a sender that loses its key (R149, R152, R153, R154) -/

/-- What a sender that has read these levels decodes on with: a readback fault is recorded where they are not those it sent. -/
theorem note_readback (rx : Rx) (levels sent : List Level) : rx.note (levels != sent) .readback
    = if levels = sent then rx else { rx with fault := some (rx.fault.getD .readback) } := by
  by_cases h : levels = sent
  · simp [note_eq, h]
  · cases hf : rx.fault <;> simp [note_eq, h, hf]

/-- The lost bit of a key that is not all but one dominant is decoded behind the bits before it, without fault. -/
theorem key_decoded {key : List Level} {k : Nat} (hkey : key.length = 6) (hk : k ≤ 5) (hmixed : key.take 5 ≠ List.replicate 5 false) :
    ((key.take k).foldl Rx.feed Rx.afterStart).bits.length = k + 1
      ∧ (((key.take k).foldl Rx.feed Rx.afterStart).feed false).bits.reverse = false :: key.take k ++ [false]
      ∧ (((key.take k).foldl Rx.feed Rx.afterStart).feed false).fault = none := by
  have hlen : (key.take k).length = k := by rw [List.length_take]; omega
  have hstart : Rx.afterStart.bits = [false] ∧ Rx.afterStart.runLen = 1 ∧ Rx.afterStart.runLevel = false ∧ Rx.afterStart.fault = none := by decide
  obtain ⟨hbits0, hrun0, hlevel0, hfault0⟩ := hstart
  obtain ⟨hbits, hnone, hfault, hrun⟩ := foldl_feed_early (key.take k) (rx := Rx.afterStart) (by rw [hlen, hbits0, List.length_singleton]; omega)
    rfl (by rw [hrun0]; decide) (by rw [hlen, hrun0]; omega)
  rw [hlen, hrun0, hlevel0] at hrun
  rw [hbits0] at hbits
  have hdue : ((key.take k).foldl Rx.feed Rx.afterStart).runLen ≠ 6 := by
    obtain hlt | ⟨heq, hrep⟩ := hrun
    · omega
    · intro h6
      obtain rfl : k = 5 := by omega
      exact hmixed hrep
  have hcount : ((key.take k).foldl Rx.feed Rx.afterStart).bits.length = k + 1 := by simp [hbits]; omega
  rw [feed_early (by omega) hnone hdue]
  exact ⟨hcount, by simp [joined, hbits], hfault.trans hfault0⟩

/-- After a key begun with five dominant bits the lost bit is the inserted one, which is a violation, or the last, which is decoded without fault. -/
theorem dominant_key_decoded :
    ((List.replicate 5 false).foldl Rx.feed Rx.afterStart).bits.length = 6
      ∧ (((List.replicate 5 false).foldl Rx.feed Rx.afterStart).feed false).fault = some .insertedBit
      ∧ ((List.replicate 5 false ++ [true]).foldl Rx.feed Rx.afterStart).bits.length = 6
      ∧ (((List.replicate 5 false ++ [true]).foldl Rx.feed Rx.afterStart).feed false).bits.reverse = false :: List.replicate 5 false ++ [false]
      ∧ (((List.replicate 5 false ++ [true]).foldl Rx.feed Rx.afterStart).feed false).fault = none := by
  decide

/-- Every bit at which a key can be lost stands in the key. -/
theorem sentKey_inKey {key : List Level} {k : Nat} (hkey : key.length = 6) (hk : (sentKey key)[k]? = some true) :
    (((sentKey key).take k).foldl Rx.feed Rx.afterStart).bits.length < keyEnd := by
  have hend : keyEnd = 7 := rfl
  obtain ⟨hmixed, hle, htake⟩ | ⟨-, ⟨-, htake⟩ | ⟨-, htake⟩⟩ := sentKey_recessive hkey hk <;> rw [htake]
  · have hcount := (key_decoded hkey hle hmixed).1
    omega
  · decide
  · decide

/-- The levels before a lost bit of the key: none of its recessive bits read dominant. Then the key is lost at that bit (R152). -/
theorem readBack_sentKey {key rest levels : List Level} (hkey : key.length = 6) (hk : (sentKey key)[levels.length]? = some true)
    (hheld : ∀ i : Nat, (sentKey key)[i]? = some true → levels[i]? ≠ some false) :
    readBack levels Rx.afterStart (sentKey key ++ rest)
      = some ((levels.foldl Rx.feed Rx.afterStart).note (levels != (sentKey key).take levels.length) .readback) := by
  have hlt : levels.length < (sentKey key).length := (List.getElem?_eq_some_iff.mp hk).1
  have hsame (i : Nat) (hi : i ≤ levels.length) : (sentKey key ++ rest)[i]? = (sentKey key)[i]? := List.getElem?_append_left (by omega)
  have htake : (sentKey key ++ rest).take levels.length = (sentKey key).take levels.length := List.take_append_of_le_length hlt.le
  have hsent : (sentKey key ++ rest)[levels.length]? = some true := (hsame _ le_rfl).trans hk
  have hin : inKey Rx.afterStart (sentKey key ++ rest) levels.length = true := by
    rw [inKey, htake]
    exact decide_eq_true (sentKey_inKey hkey hk)
  have hholds : keyHeld Rx.afterStart (sentKey key ++ rest) levels = true := (keyHeld_iff _ _ _).mpr fun i _ hi hread => by
    have hread' : i < levels.length := (List.getElem?_eq_some_iff.mp hread).1
    exact absurd hread (hheld i ((hsame i hread'.le) ▸ hi))
  simp only [readBack, hsent, hin, hholds, htake, decide_true, Bool.and_self, if_true]

/-- A saturating count stops at 65535 (R164). -/
theorem satInc16_eq (c : Word16) : satInc16 c = if c = 65535 then 65535 else c + 1 := by
  by_cases h : c = 65535
  · rw [if_pos h, h]; rfl
  · rw [if_neg h]; exact if_neg h

/-- A sender that loses its key goes on as a receiver, and its frame waits again at its place (R134, R152, R164). -/
theorem exec_arbitrationLoss {s : State} {toSend levels : List Level} {stamp : Tick} {rx rx' : Rx} {before after : List TxEntry} {e : TxEntry}
    (hd : s.line.decode = some { role := .sender toSend, stamp := stamp, rx := rx }) (hrate : s.line.rateChange = false)
    (hq : s.tx.entries = before ++ e :: after) (hothers : ∀ x ∈ before ++ after, x.inFlight = false) (hfly : e.inFlight = true)
    (hw : e.withdrawn = false) (ho : e.orphan = false) (hn : e.returnNotice = false) (hread : readBack levels rx toSend = some rx') :
    exec (.arbitrationLoss levels) s = .next { s with
      line := { s.line with
        recessiveRun := 0
        decode := some { role := .receiver, stamp := stamp, rx := rx'.feed false }
        arbitrationLosses := if s.line.arbitrationLosses = 65535 then 65535 else s.line.arbitrationLosses + 1 }
      tx := { s.tx with entries := before ++ { e with inFlight := false } :: after } } := by
  let lost : State := { s with line := s.line.loseTo { role := .sender toSend, stamp := stamp, rx := rx } rx' }
  have hlost := RosterPresence.attemptLost_retry (s := lost) hq hothers hfly hw ho hn
  have hsettled : lost.attemptLost.settleRate = lost.attemptLost := RosterPresence.settleRate_eq (by rw [hlost]; exact hrate)
  have hexec : exec (.arbitrationLoss levels) s = .next lost.attemptLost.settleRate := by
    simp only [exec, execArbitrationLoss, State.loseArbitration, hd, hread, lost]
  have hkept : RosterPresence.keptQueue s.tx before after e = { s.tx with entries := before ++ { e with inFlight := false } :: after } := by
    rw [RosterPresence.keptQueue, ← hn]
  rw [hexec, hsettled, hlost, ← hkept, ← satInc16_eq]
  rfl

/-- Settles O26: by what the key is, what the sender has decoded at the lost bit; then the attempt's end. -/
theorem lostArbitrationLeavesTheSenderReceiving : Obligations.LostArbitrationLeavesTheSenderReceiving := by
  intro s f stamp levels before after e hd hrate hq hothers hfly _ hw ho hn key sent k hk hheld heard rx
  have hkey : key.length = 6 := rfl
  obtain ⟨rest, hrest⟩ := encodeBody_key s.me f
  have hread := readBack_sentKey (rest := rest) hkey hk hheld
  rw [note_readback] at hread
  have hrx (heq : levels = sent.take k) : rx = ((sent.take k).foldl Rx.feed Rx.afterStart).feed false := by
    simp only [rx, if_pos heq, heard]
    rw [← heq]
  refine ⟨fun hne => ?_, fun heq hmixed => ?_, fun heq hzero => ?_, ?_⟩
  · have hfault : rx.fault = some (heard.fault.getD .readback) := feed_fault_of_some (by rw [if_neg hne]) false
    rw [hfault]
    exact Option.some_ne_none _
  · obtain ⟨-, hle, htake⟩ | ⟨hzero, -⟩ := sentKey_recessive hkey hk
    · rw [hrx heq]
      exact htake ▸ (key_decoded hkey hle hmixed).2
    · exact absurd hzero hmixed
  · obtain ⟨-, hfaulty, -, hbits, hfault⟩ := dominant_key_decoded
    obtain ⟨hmixed, -⟩ | ⟨-, ⟨h5, htake⟩ | ⟨h6, htake⟩⟩ := sentKey_recessive hkey hk
    · exact absurd hzero hmixed
    · refine ⟨fun _ => ?_, fun h6 => absurd (h5.symm.trans h6) (by decide)⟩
      rw [hrx heq]
      exact htake ▸ hfaulty
    · refine ⟨fun h5 => absurd (h5.symm.trans h6) (by decide), fun _ => ?_⟩
      rw [hrx heq, hzero]
      exact htake ▸ ⟨hbits, hfault⟩
  · rw [hrest] at hd
    exact exec_arbitrationLoss hd hrate hq hothers hfly hw ho hn hread

/-! ## Numbers as bits (R193, R194) -/

theorem natBits_succ (n v : Nat) : natBits (n + 1) v = v.testBit n :: natBits n v := by
  simp only [natBits, List.range_succ_eq_map, List.map_cons, List.map_map, Nat.add_sub_cancel, Nat.sub_zero, List.cons.injEq, true_and]
  exact List.map_congr_left fun i _ => by simp only [Function.comp]; congr 1; omega

@[simp] theorem length_natBits (n v : Nat) : (natBits n v).length = n := by simp [natBits]

@[simp] theorem length_bytesBits (bs : List Byte) : (bytesBits bs).length = 8 * bs.length := by
  induction bs with
  | nil => rfl
  | cons b bs ih => simp only [bytesBits, List.flatMap_cons, List.length_append, List.length_cons, byteBits, length_natBits] at ih ⊢; omega

/-- The bits of a number spell it, behind those already read. -/
theorem foldl_natBits (n v acc : Nat) : (natBits n v).foldl (fun m b => 2 * m + b.toNat) acc = acc * 2 ^ n + v % 2 ^ n := by
  induction n generalizing acc with
  | zero => simp [natBits, Nat.mod_one]
  | succ n ih =>
    rw [natBits_succ, List.foldl_cons, ih, Nat.mod_pow_succ, Nat.toNat_testBit, Nat.pow_succ]
    ring

theorem bitsNat_natBits {n v : Nat} (h : v < 2 ^ n) : bitsNat (natBits n v) = v := by
  rw [bitsNat, foldl_natBits, Nat.mod_eq_of_lt h]
  omega

/-- The check over a sequence is that over its beginning, carried on (R150). -/
theorem crcBits_append (c : Word16) (as bs : List Bool) : crcBits c (as ++ bs) = crcBits (crcBits c as) bs := by
  induction as generalizing c with
  | nil => rfl
  | cons a as ih =>
    simp only [List.cons_append, crcBits]
    split <;> exact ih _

/-! ## Payloads carry their fields (R193, R194) -/

theorem word16Of_extract (w : Word16) : word16Of (w.extractLsb' 8 8) (w.extractLsb' 0 8) = w :=
  (BitVec.extractLsb'_append_extractLsb'_eq_extractLsb' rfl).trans BitVec.extractLsb'_eq_self

theorem tick_extract (t : Tick) : t.extractLsb' 24 8 ++ t.extractLsb' 16 8 ++ t.extractLsb' 8 8 ++ t.extractLsb' 0 8 = t := by
  rw [BitVec.extractLsb'_append_extractLsb'_eq_extractLsb' (by rfl), BitVec.extractLsb'_append_extractLsb'_eq_extractLsb' (by rfl),
    BitVec.extractLsb'_append_extractLsb'_eq_extractLsb' (by rfl)]
  exact BitVec.extractLsb'_eq_self

theorem stationOf_ofNat {n : Nat} {p : Station} (h : n % 16 = p.val) : stationOf (BitVec.ofNat 8 n) = p := by
  refine Fin.ext ?_
  simp only [stationOf, BitVec.toNat_ofNat]
  omega

theorem stationOf_stationByte (p : Station) : stationOf (stationByte p) = p := stationOf_ofNat (Nat.mod_eq_of_lt p.isLt)

/-- A flag in the top bit of a byte, above a number. -/
theorem msb_ofNat (flag : Bool) {n : Nat} (h : n < 128) : (BitVec.ofNat 8 ((if flag then 128 else 0) + n)).msb = flag := by
  rw [BitVec.msb_eq_decide, BitVec.toNat_ofNat]
  cases flag <;> simp <;> omega

/-- A field of a byte, with a flag or other fields above it. -/
theorem extract_ofNat {n w at_ : Nat} {v : BitVec w} (h : n < 256) (hv : n / 2 ^ at_ % 2 ^ w = v.toNat) :
    (BitVec.ofNat 8 n).extractLsb' at_ w = v := by
  refine BitVec.eq_of_toNat_eq ?_
  rw [BitVec.extractLsb'_toNat, BitVec.toNat_ofNat, Nat.mod_eq_of_lt h, Nat.shiftRight_eq_div_pow, hv]

/-- A member entry's first byte carries its flag, its mode and its station (R194). -/
theorem member_byte (holder : Bool) (mode : BitVec 2) (p : Station) :
    let b := BitVec.ofNat 8 ((if holder then 128 else 0) + 16 * mode.toNat + p.val)
    b.msb = holder ∧ b.extractLsb' 4 2 = mode ∧ stationOf b = p := by
  have hmode := mode.isLt
  have hp := p.isLt
  refine ⟨?_, extract_ofNat ?_ ?_, stationOf_ofNat ?_⟩
  · rw [Nat.add_assoc]
    exact msb_ofNat holder (by omega)
  all_goals split <;> omega

theorem listOfBytes_bytes (ms : List Member) : Member.listOfBytes (ms.flatMap Member.bytes) = some ms := by
  induction ms with
  | nil => rfl
  | cons m ms ih =>
    obtain ⟨hholder, hmode, hp⟩ := member_byte m.holder m.mode m.station
    simp only [List.flatMap_cons, Member.bytes, word16Bytes, List.cons_append, List.nil_append, Member.listOfBytes, ih, Option.map_some,
      Member.ofBytes, hholder, hmode, hp, word16Of_extract]

/-- A CLAIM's second byte carries its flag and its mode (R194). -/
theorem claim_byte (noWait : Bool) (mode : BitVec 2) :
    let b := BitVec.ofNat 8 ((if noWait then 128 else 0) + mode.toNat)
    b.msb = noWait ∧ b.extractLsb' 0 2 = mode := by
  have hmode := mode.isLt
  refine ⟨msb_ofNat noWait (by omega), extract_ofNat ?_ ?_⟩
  all_goals split <;> omega

/-- The two state fields of a BEACON share a byte (R194). -/
theorem beacon_byte (st : BitVec 4) (tb : BitVec 2) :
    let b := BitVec.ofNat 8 (16 * st.toNat + tb.toNat)
    b.extractLsb' 4 4 = st ∧ b.extractLsb' 0 2 = tb := by
  have hst := st.isLt
  have htb := tb.isLt
  exact ⟨extract_ofNat (by omega) (by omega), extract_ofNat (by omega) (by omega)⟩

theorem state_byte (st : BitVec 2) : (BitVec.ofNat 8 st.toNat).extractLsb' 0 2 = st :=
  extract_ofNat (by omega) (by omega)

/-- Every frame is read back from its payload (R194). -/
theorem ofPayload_payload (f : Frame) : Frame.ofPayload f.kind f.payload = some f := by
  cases f with
  | found =>
    show some (Frame.found (word16Of _ _) (word16Of _ _)) = _
    rw [word16Of_extract, word16Of_extract]
  | apply =>
    show some (Frame.apply (word16Of _ _) (word16Of _ _)) = _
    rw [word16Of_extract, word16Of_extract]
  | quit => rfl
  | depart p => exact congrArg (some ∘ Frame.depart) (stationOf_stationByte p)
  | beacon b =>
    obtain ⟨hst, htb⟩ := beacon_byte b.stationState b.timebaseState
    show some (Frame.beacon ⟨_, _ ++ _ ++ _ ++ _, BitVec.extractLsb' 4 4 _, BitVec.extractLsb' 0 2 _, word16Of _ _, word16Of _ _⟩) = _
    rw [tick_extract, hst, htb, word16Of_extract, word16Of_extract]
  | admitJoiner j inc capture parts states =>
    show some (Frame.admitJoiner (stationOf _) (word16Of _ _) (word16Of _ _) _ (_ ++ _ ++ _ ++ _)) = _
    rw [stationOf_stationByte, word16Of_extract, word16Of_extract, tick_extract]
  | decline d =>
    show some (Frame.decline ⟨stationOf _, word16Of _ _, _⟩) = _
    rw [stationOf_stationByte, word16Of_extract]
  | snapshot j p =>
    show Option.map (fun ms => Frame.snapshot (stationOf _) ⟨_, _, BitVec.extractLsb' 0 2 _, word16Of _ _, ms⟩)
      (Member.listOfBytes (p.members.flatMap Member.bytes)) = _
    rw [stationOf_stationByte, state_byte, word16Of_extract, listOfBytes_bytes]
    rfl
  | snapEnd j digest =>
    show some (Frame.snapEnd (stationOf _) (word16Of _ _)) = _
    rw [stationOf_stationByte, word16Of_extract]
  | revoke r p grant =>
    show some (Frame.revoke _ (stationOf _) (word16Of _ _)) = _
    rw [stationOf_stationByte, word16Of_extract]
  | claim r noWait mode term =>
    obtain ⟨hflag, hmode⟩ := claim_byte noWait mode
    show some (Frame.claim _ (BitVec.msb _) (BitVec.extractLsb' 0 2 _) (word16Of _ _)) = _
    rw [hflag, hmode, word16Of_extract]
  | drop r grant => exact congrArg (some ∘ Frame.drop r) (word16Of_extract grant)
  | extend r grant term =>
    show some (Frame.extend _ (word16Of _ _) (word16Of _ _)) = _
    rw [word16Of_extract, word16Of_extract]
  | withdraw => rfl

/-- A frame that a sender can send has a payload length of its kind, at most 26 (R193). -/
theorem payload_length {f : Frame} (hwf : f.wellFormed = true) : f.kind.lengths.contains f.payload.length = true ∧ f.payload.length ≤ 26 := by
  cases f with
  | snapshot j p =>
    have hmembers : (p.members.flatMap Member.bytes).length = 5 * p.members.length := by
      induction p.members with
      | nil => rfl
      | cons m ms ih => rw [List.flatMap_cons, List.length_append, ih, List.length_cons]; simp [Member.bytes, word16Bytes]; omega
    have hle : p.members.length ≤ 4 := by simpa [Frame.wellFormed] using hwf
    simp only [Frame.kind, FrameKind.lengths, Frame.payload, word16Bytes, List.length_append, hmembers, List.length_cons, List.length_nil]
    interval_cases p.members.length <;> decide
  | found | apply | quit | depart | beacon | admitJoiner | decline | snapEnd | revoke | claim | drop | extend | withdraw =>
    simp [Frame.kind, FrameKind.lengths, Frame.payload, word16Bytes, tickBytes]

/-- A kind is read back from its class and code (R193). -/
theorem ofCode_cls_code (k : FrameKind) : FrameKind.ofCode k.cls k.code = some k := by cases k <;> rfl

/-! ## The fields of a body (R149, R150, R193, R194) -/

section
variable (sender : Station) (f : Frame)

theorem plainBody_eq : plainBody sender f = false :: (natBits 2 f.kind.cls ++ (natBits 4 sender.val ++ (natBits 4 f.kind.code
    ++ (natBits 6 f.payload.length ++ (bytesBits f.payload ++ natBits 16 (crcBits crcPreset (coveredBits sender f)).toNat))))) := by
  simp [plainBody, coveredBits]

theorem length_coveredBits : (coveredBits sender f).length = 16 + 8 * f.payload.length := by
  simp only [coveredBits, List.length_append, length_natBits, length_bytesBits]

/-- A body has 33 bits and 8 for each byte of its payload (spec/07 7.2). -/
theorem length_plainBody : (plainBody sender f).length = 33 + 8 * f.payload.length := by
  simp only [plainBody, List.length_append, List.length_cons, length_coveredBits, length_natBits]
  omega

/-- The covered bits stand behind the start bit (R150). -/
theorem plainBody_covered : ((plainBody sender f).take (17 + 8 * f.payload.length)).drop 1 = coveredBits sender f := by
  have hlen := length_coveredBits sender f
  simp only [plainBody, List.cons_append, show 17 + 8 * f.payload.length = (16 + 8 * f.payload.length) + 1 by omega, List.take_succ_cons,
    List.drop_succ_cons, List.drop_zero]
  rw [← hlen]
  exact List.take_left

end

/-- What stands in a list behind a part of it. -/
theorem drop_take_eq {α : Type} {l as bs cs : List α} {at_ n : Nat} (hl : l = as ++ (bs ++ cs)) (ha : as.length = at_) (hb : bs.length = n) :
    (l.drop at_).take n = bs := by
  subst hl ha hb
  rw [List.drop_left, List.take_left]

section
variable (sender : Station) (f : Frame)

theorem plainBody_cls : bitsNat (((plainBody sender f).drop 1).take 2) = f.kind.cls := by
  rw [drop_take_eq (at_ := 1) (as := [false]) (bs := natBits 2 f.kind.cls) (plainBody_eq sender f) rfl (length_natBits _ _)]
  exact bitsNat_natBits (by cases f.kind <;> decide)

theorem plainBody_sender : bitsNat (((plainBody sender f).drop 3).take 4) = sender.val := by
  rw [drop_take_eq (as := false :: natBits 2 f.kind.cls) (bs := natBits 4 sender.val) (by rw [plainBody_eq]; rfl) (by simp) (length_natBits _ _)]
  exact bitsNat_natBits sender.isLt

theorem plainBody_code : bitsNat (((plainBody sender f).drop 7).take 4) = f.kind.code := by
  rw [drop_take_eq (as := false :: (natBits 2 f.kind.cls ++ natBits 4 sender.val)) (bs := natBits 4 f.kind.code)
    (by simp only [plainBody_eq, List.cons_append, List.append_assoc]; rfl) (by simp) (length_natBits _ _)]
  exact bitsNat_natBits (by cases f.kind <;> decide)

theorem plainBody_length (h : f.payload.length < 64) : bitsNat (((plainBody sender f).drop 11).take 6) = f.payload.length := by
  rw [drop_take_eq (as := false :: (natBits 2 f.kind.cls ++ (natBits 4 sender.val ++ natBits 4 f.kind.code))) (bs := natBits 6 f.payload.length)
    (by simp only [plainBody_eq, List.cons_append, List.append_assoc]; rfl) (by simp) (length_natBits _ _)]
  exact bitsNat_natBits h

theorem plainBody_crc : bitsNat (((plainBody sender f).drop (17 + 8 * f.payload.length)).take 16)
    = (crcBits crcPreset (coveredBits sender f)).toNat := by
  rw [drop_take_eq (as := false :: coveredBits sender f) (bs := natBits 16 (crcBits crcPreset (coveredBits sender f)).toNat) (cs := [])
    (by simp [plainBody]) (by rw [List.length_cons, length_coveredBits]; omega) (length_natBits _ _)]
  exact bitsNat_natBits (BitVec.isLt _)

/-- The bits of one byte of the payload (R194). -/
theorem plainBody_byte {i : Nat} (hi : i < f.payload.length) :
    bitsNat (((plainBody sender f).drop (17 + 8 * i)).take 8) = f.payload[i].toNat := by
  have hsplit : bytesBits f.payload = bytesBits (f.payload.take i) ++ (byteBits f.payload[i] ++ bytesBits (f.payload.drop (i + 1))) := by
    have htake := List.take_append_drop i f.payload
    rw [List.drop_eq_getElem_cons hi] at htake
    simpa only [bytesBits, List.flatMap_append, List.flatMap_cons] using (congrArg bytesBits htake).symm
  rw [drop_take_eq (as := false :: (natBits 2 f.kind.cls ++ (natBits 4 sender.val ++ (natBits 4 f.kind.code
      ++ (natBits 6 f.payload.length ++ bytesBits (f.payload.take i)))))) (bs := byteBits f.payload[i])
    (by simp only [plainBody_eq, hsplit, List.cons_append, List.append_assoc]; rfl) (by simp; omega) (length_natBits _ _)]
  exact bitsNat_natBits (BitVec.isLt _)

end

/-! ## The decode of a body as it is sent (R149, R150, R154, R157) -/

/-- What a station has decoded that has read the first `n` bits of a frame's body without fault: those bits, the check over the covered ones, and
from the 17th on the length (R149, R150). -/
structure Decoded (sender : Station) (f : Frame) (n : Nat) (rx : Rx) : Prop where
  order : rx.order = (plainBody sender f).take n
  crc : rx.crc = crcBits crcPreset (((plainBody sender f).take (min n (17 + 8 * f.payload.length))).drop 1)
  payloadLen : rx.payloadLen = if 17 ≤ n then some f.payload.length else none
  fault : rx.fault = none

section
variable {sender : Station} {f : Frame} {n : Nat} {rx : Rx}

theorem decoded_afterStart : Decoded sender f 1 Rx.afterStart := by
  have hcrc : Rx.afterStart.crc = crcPreset := by decide
  refine ⟨?_, ?_, rfl, rfl⟩
  · rw [plainBody_eq]; rfl
  · rw [hcrc, min_eq_left (by omega), plainBody_eq]; rfl

/-- The bits decoded are as many as were read. -/
theorem length_of_order (h : rx.order = (plainBody sender f).take n) (hn : n ≤ (plainBody sender f).length) : rx.bits.length = n := by
  have hlen := congrArg List.length h
  rwa [Rx.order, List.length_reverse, List.length_take_of_le hn] at hlen

/-- A field all of whose bits have been read is that of the body. -/
theorem field_of_order (h : rx.order = (plainBody sender f).take n) {at_ w : Nat} (hn : at_ + w ≤ n) :
    rx.field at_ w = bitsNat (((plainBody sender f).drop at_).take w) := by
  rw [Rx.field, h, List.drop_take, List.take_take, min_eq_left (by omega)]

theorem kind_of_order (h : rx.order = (plainBody sender f).take n) (hn : 11 ≤ n) : rx.kind = some f.kind := by
  rw [Rx.kind, field_of_order h (by omega), field_of_order h (by omega), plainBody_cls, plainBody_code, ofCode_cls_code]

theorem note_false (rx : Rx) (x : LineFault) : rx.note false x = rx := rfl

/-- The checks of a body as it is sent find no fault, and locate its payload at the 17th bit (R150, R154). -/
theorem decoded_checkFields (hwf : f.wellFormed = true) (hn : n ≤ (plainBody sender f).length) (horder : rx.order = (plainBody sender f).take n)
    (hcrc : rx.crc = crcBits crcPreset (((plainBody sender f).take (min n (17 + 8 * f.payload.length))).drop 1))
    (hp : rx.payloadLen = if 18 ≤ n then some f.payload.length else none) (hfault : rx.fault = none) : Decoded sender f n rx.checkFields := by
  obtain ⟨hpermitted, hshort⟩ := payload_length hwf
  have hlen := length_of_order horder hn
  unfold Rx.checkFields
  rw [hlen]
  split_ifs with h11 h17 hlast
  · rw [kind_of_order horder (by omega), Option.isNone_some, note_false]
    exact ⟨horder, hcrc, by rw [hp, if_neg (by omega), if_neg (by omega)], hfault⟩
  · have hfield : rx.field 11 6 = f.payload.length := by rw [field_of_order horder (by omega), plainBody_length _ _ (by omega)]
    simp only [kind_of_order horder (show 11 ≤ n by omega), hfield, hpermitted, Bool.not_true, note_false, min_eq_left (show f.payload.length ≤ 48 by omega)]
    exact ⟨horder, hcrc, by rw [if_pos (by omega)], hfault⟩
  · have h18 : 18 ≤ n := by
      by_contra hlt
      simp [hp, if_neg hlt] at hlast
    rw [if_pos h18] at hp
    have hlocated : rx.located = 33 + 8 * f.payload.length := by rw [Rx.located, hp]; rfl
    have hend : n = 33 + 8 * f.payload.length := by simpa [hp, hlocated] using hlast
    have hcheck : rx.crc = crcBits crcPreset (coveredBits sender f) := by rw [hcrc, min_eq_right (by omega), plainBody_covered]
    have hsame : (rx.field (rx.located - 16) 16 != rx.crc.toNat) = false := by
      rw [hlocated, show 33 + 8 * f.payload.length - 16 = 17 + 8 * f.payload.length by omega, field_of_order horder (by omega), plainBody_crc, hcheck,
        bne_self_eq_false]
    rw [hsame, note_false]
    exact ⟨horder, hcrc, by rw [hp, if_pos (by omega)], hfault⟩
  · refine ⟨horder, hcrc, ?_, hfault⟩
    rw [hp]
    by_cases h18 : 18 ≤ n
    · rw [if_pos h18, if_pos (by omega)]
    · rw [if_neg h18, if_neg (by omega)]

/-- One more bit of the body, as it is sent (R149, R150). -/
theorem decoded_joined (hwf : f.wellFormed = true) (h : Decoded sender f n rx) (hpos : 1 ≤ n) (hn : n < (plainBody sender f).length) :
    Decoded sender f (n + 1) (joined rx (plainBody sender f)[n]).checkFields := by
  have hlen := length_of_order h.order hn.le
  have htake : (plainBody sender f).take (n + 1) = (plainBody sender f).take n ++ [(plainBody sender f)[n]] := List.take_succ_eq_append_getElem hn
  refine decoded_checkFields hwf hn ?_ ?_ ?_ h.fault
  · rw [htake, ← h.order]
    exact List.reverse_cons
  · have hcovered : (decide (0 < rx.bits.length) && (rx.payloadLen.isNone || decide (rx.bits.length < rx.located - 16)))
        = decide (n < 17 + 8 * f.payload.length) := by
      rw [hlen, Rx.located, h.payloadLen]
      by_cases h17 : 17 ≤ n
      · rw [if_pos h17, Option.isNone_some, Bool.false_or, decide_eq_true (show 0 < n by omega), Bool.true_and, Option.getD_some,
          show 33 + 8 * f.payload.length - 16 = 17 + 8 * f.payload.length by omega]
      · rw [if_neg h17, Option.isNone_none, Bool.true_or, Bool.and_true, decide_eq_true (show 0 < n by omega),
          decide_eq_true (show n < 17 + 8 * f.payload.length by omega)]
    have hcrc : (joined rx (plainBody sender f)[n]).crc
        = if n < 17 + 8 * f.payload.length then crcBits rx.crc [(plainBody sender f)[n]] else rx.crc := by
      simp only [joined, hcovered, decide_eq_true_eq]
    rw [hcrc, h.crc]
    split
    · rw [min_eq_left (by omega), min_eq_left (by omega), htake, List.drop_append_of_le_length (by rw [List.length_take_of_le hn.le]; exact hpos),
        crcBits_append]
    · rw [min_eq_right (by omega), min_eq_right (by omega)]
  · have hp : (joined rx (plainBody sender f)[n]).payloadLen = rx.payloadLen := rfl
    rw [hp, h.payloadLen]
    exact if_congr (by omega) rfl rfl

end

/-! ## The levels of a body (R149, R157) -/

/-- The levels read are in step with those sent: the run's level and length, and the recessive bits of it (R149, R157). -/
structure InStep (lvl : Level) (run : Nat) (rx : Rx) : Prop where
  level : rx.runLevel = lvl
  length : rx.runLen = run
  recessive : rx.recessive = if lvl then run else 0

theorem note_run (rx : Rx) (bad : Bool) (x : LineFault) :
    (rx.note bad x).runLevel = rx.runLevel ∧ (rx.note bad x).runLen = rx.runLen ∧ (rx.note bad x).recessive = rx.recessive := by
  rw [note_eq]; exact ⟨rfl, rfl, rfl⟩

theorem checkFields_run (rx : Rx) :
    rx.checkFields.runLevel = rx.runLevel ∧ rx.checkFields.runLen = rx.runLen ∧ rx.checkFields.recessive = rx.recessive := by
  unfold Rx.checkFields
  split_ifs
  · exact note_run _ _ _
  · exact note_run _ _ _
  · exact note_run _ _ _
  · exact ⟨rfl, rfl, rfl⟩

theorem InStep.joined {lvl : Level} {run : Nat} {rx : Rx} (h : InStep lvl run rx) (b : Level) :
    InStep b (nextRun lvl run b) (joined rx b).checkFields := by
  obtain ⟨hlevel, hlength, hrec⟩ := checkFields_run (TransmitQ.joined rx b)
  refine ⟨hlevel, hlength.trans ?_, hrec.trans ?_⟩
  · simp only [TransmitQ.joined, h.level, h.length]
  · simp only [TransmitQ.joined, h.recessive, nextRun]
    cases b <;> cases lvl <;> rfl

/-- The inserted bit is read as one: it is no violation, and starts a run (R149). -/
theorem feed_inserted_opposite {lvl : Level} {rx : Rx} (h : InStep lvl 6 rx) :
    rx.feed (!lvl) = { rx with runLevel := !lvl, runLen := 1, recessive := if !lvl then 1 else 0 } := by
  have hopposite : ((!lvl) == rx.runLevel) = false := by rw [h.level]; cases lvl <;> rfl
  rw [feed_inserted h.length, hopposite, note_false, h.recessive]
  cases lvl <;> rfl

/-- In step, seven recessive bits in a row are never read (R157). -/
theorem InStep.not_lost {lvl : Level} {run : Nat} {rx : Rx} (h : InStep lvl run rx) (hrun : run ≤ 6) : rx.lost = false := by
  simp only [Rx.lost, Config.missedRun, h.recessive, decide_eq_false_iff_not, Nat.not_le]
  split <;> omega

theorem feedAll_cons {rx : Rx} (hdone : rx.bodyDone = false) (hlost : rx.lost = false) (b : Level) (bs : List Level) :
    rx.feedAll (b :: bs) = (rx.feed b).feedAll bs := by
  simp [Rx.feedAll, hdone, hlost]

section
variable {sender : Station} {f : Frame}

/-- Before the last bit of the body it is not done. -/
theorem Decoded.not_done {n : Nat} {rx : Rx} (h : Decoded sender f n rx) (hn : n < (plainBody sender f).length) : rx.bodyDone = false := by
  have hlen := length_of_order h.order hn.le
  have hbody := length_plainBody sender f
  by_cases h17 : 17 ≤ n
  · have hlocated : rx.located = 33 + 8 * f.payload.length := by rw [Rx.located, h.payloadLen, if_pos h17]; rfl
    have hne : (rx.bits.length == rx.located) = false := by rw [beq_eq_false_iff_ne]; omega
    simp [Rx.bodyDone, hne]
  · simp [Rx.bodyDone, h.payloadLen, h17]

theorem not_done_of_due {lvl : Level} {rx : Rx} (h : InStep lvl 6 rx) : rx.bodyDone = false := by
  simp [Rx.bodyDone, h.length, Config.insertAfter]

/-- A station in step reads the rest of a body to its end, inserted bits taken out (R149). -/
theorem feedAll_insertBits (hwf : f.wellFormed = true) (bs : List Level) {n run : Nat} {lvl : Level} {rx : Rx} (hpos : 1 ≤ n)
    (hbs : (plainBody sender f).drop n = bs) (hn : n ≤ (plainBody sender f).length) (h : Decoded sender f n rx) (hstep : InStep lvl run rx)
    (hrun : run < 6) : ∃ rx', rx.feedAll (insertBits lvl run bs) = some rx' ∧ Decoded sender f (plainBody sender f).length rx' ∧ rx'.runLen ≠ 6 := by
  induction bs generalizing n run lvl rx with
  | nil =>
    obtain rfl : n = (plainBody sender f).length := le_antisymm hn (List.drop_eq_nil_iff.mp hbs)
    exact ⟨rx, rfl, h, by rw [hstep.length]; omega⟩
  | cons b bs ih =>
    have hlt : n < (plainBody sender f).length := by
      by_contra hge
      rw [List.drop_eq_nil_of_le (by omega)] at hbs
      cases hbs
    rw [List.drop_eq_getElem_cons hlt] at hbs
    obtain ⟨rfl, hrest⟩ := List.cons.inj hbs
    have hfeed := feed_joined (rx := rx) (by rw [hstep.length]; omega) (plainBody sender f)[n]
    have hnext := decoded_joined hwf h hpos hlt
    have hstep' := hstep.joined (plainBody sender f)[n]
    have hread := feedAll_cons (h.not_done hlt) (hstep.not_lost hrun.le) (plainBody sender f)[n]
    by_cases hdue : nextRun lvl run (plainBody sender f)[n] = 6
    · rw [hdue] at hstep'
      rw [insertBits_due hdue, hread, hfeed, feedAll_cons (not_done_of_due hstep') (hstep'.not_lost le_rfl), feed_inserted_opposite hstep']
      exact ih (by omega) hrest hlt ⟨hnext.order, hnext.crc, hnext.payloadLen, hnext.fault⟩ ⟨rfl, rfl, rfl⟩ (by omega)
    · have hle : nextRun lvl run (plainBody sender f)[n] ≤ run + 1 := by unfold nextRun; split <;> omega
      rw [insertBits_not_due hdue, hread, hfeed]
      exact ih (by omega) hrest hlt hnext hstep' (by omega)

/-- A whole body without fault carries its frame (R193, R194). -/
theorem Decoded.frame {rx : Rx} (h : Decoded sender f (plainBody sender f).length rx) : rx.frame = some (sender, f) := by
  have hbody := length_plainBody sender f
  have hlen : rx.payloadLen.getD 0 = f.payload.length := by rw [h.payloadLen, if_pos (by omega)]; rfl
  have hbytes : (List.range f.payload.length).map (fun i => BitVec.ofNat 8 (rx.field (17 + 8 * i) 8)) = f.payload := by
    refine List.ext_getElem (by simp) fun i _ hi => ?_
    rw [List.getElem_map, List.getElem_range, field_of_order h.order (by omega), plainBody_byte _ _ hi, BitVec.ofNat_toNat, BitVec.setWidth_eq]
  have hsender : rx.field 3 4 % 16 = sender.val := by
    rw [field_of_order h.order (by omega), plainBody_sender]
    exact Nat.mod_eq_of_lt sender.isLt
  simp only [Rx.frame, kind_of_order h.order (show 11 ≤ (plainBody sender f).length by omega), hlen, hbytes, ofPayload_payload, Option.map_some, hsender]

/-- Decode and encode agree: the levels of a body, read after its start bit, end it without fault and carry the frame and its sender (R149, R150,
R193, R194). -/
theorem feedAll_encodeBody (sender : Station) {f : Frame} (hwf : f.wellFormed = true) :
    ∃ rx, Rx.afterStart.feedAll ((encodeBody sender f).drop 1) = some rx ∧ rx.bodyDone = true ∧ rx.fault = none
      ∧ rx.frame = some (sender, f) := by
  have hbody := length_plainBody sender f
  have hfirst : (encodeBody sender f).drop 1 = insertBits false 1 ((plainBody sender f).drop 1) := by
    rw [encodeBody, plainBody_eq, insertBits_not_due (by decide)]
    rfl
  obtain ⟨rx, hread, hdecoded, hdue⟩ := feedAll_insertBits (sender := sender) hwf _ le_rfl rfl (by omega) decoded_afterStart
    (lvl := false) (run := 1) ⟨rfl, rfl, rfl⟩ (by omega)
  refine ⟨rx, hfirst ▸ hread, ?_, hdecoded.fault, hdecoded.frame⟩
  have hlen : rx.payloadLen = some f.payload.length := hdecoded.payloadLen.trans (if_pos (by omega))
  have hend : rx.bits.length = rx.located := by rw [length_of_order hdecoded.order le_rfl, hbody, Rx.located, hlen]; rfl
  simp [Rx.bodyDone, hlen, hend, hdue, Config.insertAfter]

end

/-! ## The own frame accepted (R134, R155, R156, R158, R160, R161) -/

/-- The accepted frame leaves the queue, and its identity awaits delivery (R134). -/
theorem accept_eq {q : TransmitQueue} {before after : List TxEntry} {e : TxEntry} (hq : q.entries = before ++ e :: after)
    (hothers : ∀ x ∈ before ++ after, x.inFlight = false) (hfly : e.inFlight = true) (ho : e.orphan = false) (hp : q.pendingDeclines = []) :
    q.accept = { q with entries := before ++ after, awaiting := q.awaiting ++ [e.frame.id] } := by
  have hland : q.land = { q with entries := before ++ after } := by
    rw [TransmitQueue.land, hq, filter_not_eq (fun x => !x.inFlight) (by simp [hfly]) (fun x hx => by simp [hothers x hx])]
  simp only [TransmitQueue.accept, RosterPresence.flying?_eq_some hq hfly hothers, hland, ho, Bool.false_eq_true, if_false]
  exact refillDecline_of_no_pending hp

/-- With no entry MARKED no REVOKE is queued (R24). -/
theorem serviceRevocations_of_none {s : State} (h : s.replica.marked = []) : s.serviceRevocations = s := by
  unfold State.serviceRevocations
  split
  · rw [h]; rfl
  · rfl

/-- A sender that reads its whole body back as sent, to a recessive window (R155). -/
theorem acceptFrame_sender {s : State} {sender : Station} {f : Frame} {toSend : List Level} {stamp : Tick} {rx rx' : Rx}
    (hd : s.line.decode = some { role := .sender toSend, stamp := stamp, rx := rx }) (hread : rx.feedAll toSend = some rx')
    (hdone : rx'.bodyDone = true) (hfault : rx'.fault = none) (hframe : rx'.frame = some (sender, f)) :
    s.acceptFrame toSend = State.settleRate (State.serviceRevocations { s with
      line := s.line.accept s.member.state toSend { sender := sender, frame := f, stamp := stamp, own := true }
      tx := s.tx.accept }) := by
  simp only [State.acceptFrame, hd, hread, hframe, hdone, hfault, Option.isNone_none, Bool.and_self, if_true]

/-- Settles O28: the body reads back as its frame, and the attempt ends in acceptance. -/
theorem ownAcceptedFrameAwaitsDelivery : Obligations.OwnAcceptedFrameAwaitsDelivery := by
  intro s f stamp before after e hwf hd hq hothers hfly hf ho hp hmarked hrate hst levels
  subst hf
  obtain ⟨rx, hread, hdone, hfault, hframe⟩ := feedAll_encodeBody s.me hwf
  let t : State := { s with
    line := s.line.accept s.member.state levels { sender := s.me, frame := e.frame, stamp := stamp, own := true }
    tx := s.tx.accept }
  have hexec : exec (.frameAccepted levels) s = .next t.serviceRevocations.settleRate :=
    congrArg Host.Outcome.next (acceptFrame_sender hd hread hdone hfault hframe)
  have hserviced : t.serviceRevocations = t := serviceRevocations_of_none hmarked
  have hsettled : t.settleRate = t := RosterPresence.settleRate_eq hrate
  have hcounts : (s.member.state != .mute) = true := by simpa using hst
  rw [hexec, hserviced, hsettled]
  simp only [t, accept_eq hq hothers hfly ho hp, LineController.accept, hcounts, Bool.and_self, if_true]
  rfl

end Sys2Proof.TransmitQ
end

section
/-! PROOF. The group line (spec/07) at a receiver: the frame that its levels carry is accepted, and a frame that it misses is delivered nowhere. -/

namespace Sys2Proof.GroupLine

open Sys2Proof.Machine

/-! ## Another station's frame accepted (R155, R158, R161, R162) -/

/-- An accepted frame of another station joins the delivery order and leaves the own-frame veto count (R158, R160); the issued-veto count is kept in
MUTE alone (R161, R162, log 14). -/
theorem accept_other (l : LineController) (st : StationState) (levels : List Level) {d : Delivered} (hown : d.own = false) :
    l.accept st levels d = { l.endField (levels ++ openWindow) false with
      delivery := l.delivery ++ [d]
      issuedVetoes := if st = .mute then l.issuedVetoes else 0 } := by
  have hown' : (if d.own && st != .mute then 0 else l.ownVetoes) = l.ownVetoes := by simp [hown]
  have hissued : (if st != .mute then 0 else l.issuedVetoes) = if st = .mute then l.issuedVetoes else 0 := by
    by_cases h : st = .mute <;> simp [h]
  rw [LineController.accept, hown', hissued]
  rfl

/-- A receiver that has read a whole body without fault, to a recessive window (R155). -/
theorem acceptFrame_receiver {s : State} {sender : Station} {f : Frame} {levels : List Level} {stamp : Tick} {rx rx' : Rx}
    (hd : s.line.decode = some { role := .receiver, stamp := stamp, rx := rx }) (hread : rx.feedAll levels = some rx')
    (hdone : rx'.bodyDone = true) (hfault : rx'.fault = none) (hframe : rx'.frame = some (sender, f)) :
    s.acceptFrame levels = { s with
      line := s.line.accept s.member.state levels { sender := sender, frame := f, stamp := stamp, own := false } } := by
  simp only [State.acceptFrame, hd, hread, hframe, hdone, hfault, Option.isNone_none, Bool.and_self, if_true]

/-- Settles O27: the body reads back as its frame and sender, and the receiver accepts it. -/
theorem acceptedFrameIsTheFrameSent : Obligations.AcceptedFrameIsTheFrameSent := by
  intro s sender f stamp hwf hd levels
  obtain ⟨rx, hread, hdone, hfault, hframe⟩ := TransmitQ.feedAll_encodeBody sender hwf
  have hexec : exec (.frameAccepted levels) s = .next { s with
      line := s.line.accept s.member.state levels { sender := sender, frame := f, stamp := stamp, own := false } } :=
    congrArg Host.Outcome.next (acceptFrame_receiver hd hread hdone hfault hframe)
  rw [hexec, accept_other _ _ _ rfl]
  rfl

/-! ## Another station's frame missed (R157, R161, R163) -/

/-- A receiver misses a frame inside its body or, where it drives no veto, at the window of one found faulty (R157). -/
theorem exec_missedFrame_receiver {s : State} {levels : List Level} {d : FrameDecode} {rx : Rx} (hd : s.line.decode = some d)
    (hrole : d.role = .receiver) (hfeed : d.rx.feedAll levels = some rx) :
    exec (.missedFrame levels) s = .next (if rx.lost then s.missInBody levels
      else if rx.bodyDone && rx.fault.isSome && !s.member.state.offers then s.missAtWindow levels else s) := by
  simp only [exec, execMissedFrame, State.missFrame, hd, hrole, hfeed]

/-- Below the threshold a frame missed in its body is counted where the state may veto, and mutes nobody (R161, R162). -/
theorem missInBody_below {s : State} (levels : List Level) (hcount : s.line.issuedVetoes < 31) : s.missInBody levels = { s with line := { s.line with
    phase := .seekingIdle, decode := none, recessiveRun := countRun s.line.recessiveRun levels, vetoDriven := false
    issuedVetoes := if s.member.state.offers then s.line.issuedVetoes + 1 else s.line.issuedVetoes } } := by
  rw [State.missInBody, State.countIssuedVeto]
  split
  · refine RosterPresence.muteOnIssued_below ?_ _
    exact (Nat.succ_lt_succ hcount).ne
  · refine RosterPresence.muteOnIssued_below ?_ _
    exact (Nat.lt_succ_of_lt hcount).ne

/-- Settles O31: seven recessive bits end the decode in the body; a station that drives no veto misses a faulty frame at its window. -/
theorem missedFramesDeliverNothing : Obligations.MissedFramesDeliverNothing := by
  intro s levels d rx hd hrole hfeed run
  rw [exec_missedFrame_receiver hd hrole hfeed]
  refine ⟨fun hseven hcount => ?_, fun hlost hdone hfault hoffers => ?_⟩
  · have hlost : rx.lost = true := decide_eq_true hseven
    rw [if_pos hlost, missInBody_below levels hcount]
    rfl
  · have hmissed : (rx.bodyDone && rx.fault.isSome && !s.member.state.offers) = true := by simp [hdone, hfault, hoffers]
    rw [hlost, if_neg Bool.false_ne_true, if_pos hmissed]
    rfl

end Sys2Proof.GroupLine
end

section
/-! PROOF. The Host Port's queues (spec/08, R168, R169, R174 to R179): how an event reaches the Event Queue, and the bounds of both queues, of the
dropped-event count and of ATTN_N: what each operation leaves of them, then one case for each command. -/

namespace Sys2Proof.HostQueues

open Sys2Proof.Machine

/-! ## An event reaches the Host Port (R174, R175, R197) -/

theorem dropped_count (n : Nat) : min (n + 1) 255 = if n < 255 then n + 1 else 255 := by
  split <;> omega

/-- Settles O15: an arriving event finds room or is dropped; a raised one arrives with those before it, or waits behind them. -/
theorem raisedEventsReachTheHostPort : Obligations.RaisedEventsReachTheHostPort := by
  refine ⟨fun h e => ⟨fun hroom => ?_, fun hfull => ?_, fun rest hl => ?_, fun rest hl => ?_, fun hl => ?_, h.answer_spec e⟩, fun s hp => ?_⟩
  · obtain ⟨-, happend⟩ | ⟨hfull, -⟩ := h.append_spec e
    · exact happend
    · omega
  · obtain ⟨hroom, -⟩ | ⟨-, happend⟩ := h.append_spec e
    · omega
    · rw [happend, dropped_count]
  · simp only [HostPort.raise, hl]
  · simp only [HostPort.raise, hl, HostPort.answer_spec]
  · rw [h.raise_at_once e hl, h.answer_spec e]
  · have hstep : step s = .next s.idle := by simp only [step, hp]
    refine ⟨fun hnone => ?_, fun e rest hraised => ?_⟩
    · rw [hstep, State.idle, HostPort.arrive, hnone]
    · rw [hstep, State.idle, HostPort.arrive, hraised]

/-! ## The operations on the Host Port -/

section
variable {h : HostPort} (hs : h.Sound)
include hs

theorem append_sound (e : EventRecord) : (h.append e).Sound := by
  obtain ⟨hcommands, hevents, hdropped, hfull, hattn, hplace⟩ := hs
  obtain ⟨hroom, happend⟩ | ⟨hnone, happend⟩ := h.append_spec e <;> rw [happend]
  · have hlen : (h.events ++ [e]).length ≤ 32 := by simpa using hroom
    exact ⟨hcommands, hlen, hdropped, fun hd => absurd (hfull hd) hroom.ne, by simp, hplace⟩
  · exact ⟨hcommands, hevents, min_le_right _ _, fun _ => hevents.antisymm hnone, hattn, hplace⟩

theorem arrive_sound : h.arrive.Sound := by
  obtain ⟨-, harrive⟩ | ⟨e, es, -, harrive⟩ := h.arrive_spec <;> rw [harrive]
  · exact hs
  · exact append_sound (h := { h with raised := es }) hs e

/-- A record leaves: room for the OVERRUN that follows where events were dropped (R176). -/
theorem take_sound : h.take.Sound := by
  have ⟨hcommands, hevents, _, _, _, hplace⟩ := hs
  unfold HostPort.take
  split
  · exact hs
  · rename_i e rest he
    have hrest : rest.length + 1 ≤ 32 := by rw [he] at hevents; exact hevents
    have hleft : (h.afterTake rest).length ≤ rest.length + 1 := by
      unfold HostPort.afterTake
      split <;> simp
    exact ⟨hcommands, hleft.trans hrest, Nat.zero_le _, fun h0 => absurd rfl h0, rfl, hplace⟩

end

theorem appendAll_sound (es : List EventRecord) {h : HostPort} (hs : h.Sound) : (es.foldl HostPort.append h).Sound := by
  induction es generalizing h with
  | nil => exact hs
  | cons e es ih => exact ih (append_sound hs e)

@[simp] theorem answer_sound {h : HostPort} (hs : h.Sound) (e : EventRecord) : (h.answer e).Sound := by
  rw [h.answer_spec e]
  exact appendAll_sound _ (h := { h with raised := [] }) hs

@[simp] theorem raise_sound {h : HostPort} (hs : h.Sound) (e : EventRecord) : (h.raise e).Sound := by
  obtain ⟨-, hraise⟩ | ⟨-, hraise⟩ := h.raise_spec e <;> rw [hraise]
  · exact hs
  · exact answer_sound (h := { h with later := h.later.tail }) hs e

/-- A transaction that holds no place, or one of a queue with room. -/
theorem withTransaction_sound {h : HostPort} (hs : h.Sound) {o : Option Transaction}
    (ho : o.map (fun t => t.place) = some true → h.commands.length < 4) : HostPort.Sound { h with transaction := o } := by
  obtain ⟨hcommands, hevents, hdropped, hfull, hattn, -⟩ := hs
  exact ⟨hcommands, hevents, hdropped, hfull, hattn, ho⟩

theorem place_of_sound {h : HostPort} (hs : h.Sound) {t : Transaction} (ht : h.transaction = some t) (hp : t.place = true) :
    h.commands.length < 4 := by
  obtain ⟨-, -, -, -, -, hplace⟩ := hs
  exact hplace (by rw [ht, Option.map_some, hp])

/-- The record of a taking leaves the Command Queue (R169). -/
theorem dropCommand_sound {s : State} (hs : s.host.Sound) : s.dropCommand.host.Sound := by
  obtain ⟨hcommands, hevents, hdropped, hfull, hattn, hplace⟩ := hs
  have hlen : s.host.commands.tail.length ≤ s.host.commands.length := by simp
  exact ⟨hlen.trans hcommands, hevents, hdropped, hfull, hattn, fun hp => hlen.trans_lt (hplace hp)⟩

theorem resetEdge_sound (h : HostPort) : h.resetEdge.Sound := by
  refine ⟨Nat.zero_le _, Nat.zero_le _, Nat.zero_le _, fun h0 => absurd rfl h0, rfl, fun _ => ?_⟩
  simp [HostPort.resetEdge, HostPort.reset]

/-! ## The Claim Manager (R34 to R57) -/

theorem placeAll_sound (es : List EventRecord) {s : State} (hs : s.host.Sound) : (s.placeAll es).host.Sound := by
  induction es generalizing s with
  | nil => exact hs
  | cons e es ih => exact ih (s := s.place e) (raise_sound hs e)

theorem placeAllAtOnce_sound (es : List EventRecord) {s : State} (hs : s.host.Sound) : (es.foldl State.placeAtOnce s).host.Sound := by
  induction es generalizing s with
  | nil => exact hs
  | cons e es ih => exact ih (s := s.placeAtOnce e) (answer_sound hs e)

section
variable {s : State} (hs : s.host.Sound)
include hs

@[simp] theorem endSlot_sound (i : Fin 8) (es : List EventRecord) : (s.endSlot i es).host.Sound := placeAll_sound es (s := s.setSlot i _) hs

theorem endEnding_sound (i : Fin 8) (sl : Slot) : (s.endEnding i sl).host.Sound := placeAllAtOnce_sound _ (s := s.setSlot i _) hs

@[simp] theorem endHeldSlot_sound (i : Fin 8) (sl : Slot) (answer : Option FollowingAnswer) : (s.endHeldSlot i sl answer).host.Sound := by
  simp only [State.endHeldSlot]
  split <;> simp [hs]

theorem reportSending_sound (i : Fin 8) (sl : Slot) (rep : Report) : (s.reportSending i sl rep).host.Sound := by
  cases rep with
  | granted | queued =>
    simp only [State.reportSending]
    split <;> simp [hs]
  | denied => exact endSlot_sound hs i _
  | rejected =>
    simp only [State.reportSending]
    split <;> simp [hs]
  | dropApplied | dropStale | extendApplied | extendStale | withdrawFromWait | withdrawAsDrop | withdrawStale | revoked => exact hs

theorem reportWaiting_sound (i : Fin 8) (sl : Slot) (rep : Report) : (s.reportWaiting i sl rep).host.Sound := by
  cases rep with
  | granted => exact raise_sound hs _
  | queued | denied | rejected | dropApplied | dropStale | extendApplied | extendStale | withdrawFromWait | withdrawAsDrop | withdrawStale
  | revoked => exact hs

theorem reportHeld_sound (i : Fin 8) (sl : Slot) (rep : Report) : (s.reportHeld i sl rep).host.Sound := by
  cases rep with
  | revoked => exact endSlot_sound hs i _
  | granted | queued | denied | rejected | dropApplied | dropStale | extendApplied | extendStale | withdrawFromWait | withdrawAsDrop
  | withdrawStale => exact hs

theorem reportRenewing_sound (i : Fin 8) (sl : Slot) (rep : Report) : (s.reportRenewing i sl rep).host.Sound := by
  cases rep with
  | extendApplied => exact raise_sound hs _
  | revoked => exact endHeldSlot_sound (s := s.place _) (raise_sound hs _) i sl _
  | extendStale => exact endSlot_sound hs i _
  | rejected =>
    simp only [State.reportRenewing]
    split <;> simp [hs]
  | granted | queued | denied | dropApplied | dropStale | withdrawFromWait | withdrawAsDrop | withdrawStale => exact hs

theorem reportReleasing_sound (i : Fin 8) (sl : Slot) (rep : Report) : (s.reportReleasing i sl rep).host.Sound := by
  cases rep with
  | dropApplied | dropStale => exact endSlot_sound hs i _
  | revoked => exact endHeldSlot_sound hs i sl _
  | rejected =>
    simp only [State.reportReleasing]
    split <;> simp [hs]
  | granted | queued | denied | extendApplied | extendStale | withdrawFromWait | withdrawAsDrop | withdrawStale => exact hs

theorem reportWithdrawing_sound (i : Fin 8) (sl : Slot) (rep : Report) : (s.reportWithdrawing i sl rep).host.Sound := by
  cases rep with
  | granted => exact raise_sound hs _
  | withdrawFromWait | withdrawAsDrop | withdrawStale => exact endSlot_sound hs i _
  | rejected | revoked =>
    simp only [State.reportWithdrawing]
    split <;> simp [hs]
  | queued | denied | dropApplied | dropStale | extendApplied | extendStale => exact hs

theorem reportWithdrawingDrop_sound (i : Fin 8) (sl : Slot) (rep : Report) : (s.reportWithdrawingDrop i sl rep).host.Sound := by
  cases rep with
  | dropApplied | dropStale => exact endSlot_sound hs i _
  | rejected | revoked =>
    simp only [State.reportWithdrawingDrop]
    split <;> simp [hs]
  | granted | queued | denied | extendApplied | extendStale | withdrawFromWait | withdrawAsDrop | withdrawStale => exact hs

theorem reportLapsedDrop_sound (i : Fin 8) (sl : Slot) (rep : Report) : (s.reportLapsedDrop i sl rep).host.Sound := by
  cases rep with
  | dropApplied | dropStale => exact endSlot_sound hs i _
  | revoked => exact endHeldSlot_sound hs i sl _
  | rejected =>
    simp only [State.reportLapsedDrop]
    split <;> simp [hs]
  | granted | queued | denied | extendApplied | extendStale | withdrawFromWait | withdrawAsDrop | withdrawStale => exact hs

theorem reportLapsedExtend_sound (i : Fin 8) (sl : Slot) (rep : Report) : (s.reportLapsedExtend i sl rep).host.Sound := by
  cases rep with
  | extendStale => exact endSlot_sound hs i _
  | rejected =>
    simp only [State.reportLapsedExtend]
    split <;> simp [hs]
  | extendApplied | revoked | granted | queued | denied | dropApplied | dropStale | withdrawFromWait | withdrawAsDrop | withdrawStale => exact hs

theorem reportEnding_sound (i : Fin 8) (sl : Slot) (rep : Report) : (s.reportEnding i sl rep).host.Sound := by
  unfold State.reportEnding
  split
  · split
    · exact endEnding_sound hs i sl
    · exact hs
  · exact hs

theorem claimReport_sound (rep : Report) : (s.claimReport rep).host.Sound := by
  simp only [State.claimReport]
  split
  · exact hs
  · rename_i i _
    cases (s.slot i).state with
    | empty => exact hs
    | sending => exact reportSending_sound hs i _ rep
    | waiting => exact reportWaiting_sound hs i _ rep
    | held => exact reportHeld_sound hs i _ rep
    | renewing => exact reportRenewing_sound hs i _ rep
    | releasing => exact reportReleasing_sound hs i _ rep
    | withdrawing =>
      simp only
      split
      · exact reportWithdrawingDrop_sound hs i _ rep
      · exact reportWithdrawing_sound hs i _ rep
    | lapsed =>
      simp only
      split
      · exact reportLapsedExtend_sound hs i _ rep
      · exact reportLapsedDrop_sound hs i _ rep
    | ending => exact reportEnding_sound hs i _ rep

omit hs in
theorem claimReports_sound (reps : List Report) {s : State} (hs : s.host.Sound) : (s.claimReports reps).host.Sound := by
  induction reps generalizing s with
  | nil => exact hs
  | cons rep reps ih => exact ih (claimReport_sound hs rep)

theorem claimDiscarded_sound (k : LeaseKind) (r : ResNo) : (s.claimDiscarded k r).host.Sound := by
  simp only [State.claimDiscarded]
  split
  · exact hs
  · rename_i i _
    split
    · cases (s.slot i).state with
      | sending =>
        simp only
        split <;> simp [hs]
      | lapsed =>
        simp only
        split <;> simp [hs]
      | ending => exact endEnding_sound hs i _
      | empty | waiting | held | renewing | releasing | withdrawing => exact hs
    · exact hs

theorem selfExpire_sound (i : Fin 8) : (s.selfExpire i).host.Sound := by
  simp only [State.selfExpire]
  cases (s.slot i).state with
  | held => exact raise_sound hs _
  | renewing =>
    simp only
    split <;> simp [hs]
  | empty | sending | waiting | releasing | withdrawing | lapsed | ending => exact hs

/-! ## The Timebase, station clear and the station states (R73, R93, R122 to R128, R162) -/

theorem endRound_sound (d : Tick) : (s.endRound d).host.Sound := by
  simp only [State.endRound]
  split
  · exact answer_sound hs _
  · exact hs

theorem stationClear_sound (ev : EventRecord) : (s.stationClear ev).host.Sound := by
  have hplaced : (s.place ev).host.Sound := raise_sound hs ev
  simp only [State.stationClear, State.clearTimebase]
  split
  · exact answer_sound hplaced _
  · exact hplaced

theorem abandonEnds_sound : s.abandonEnds.host.Sound := by
  simpa [State.abandonEnds] using stationClear_sound hs _

theorem enterMute_sound (detail : Byte) (threshold : Nat) : (s.enterMute detail threshold).host.Sound := by
  unfold State.enterMute
  cases s.member.state with
  | leaving => exact stationClear_sound (s := s.place _) (raise_sound hs _) _
  | unconfigured | offline | mute => exact hs
  | online | founding | listen | joining | catchup => simp [hs]

theorem enterOnline_sound : s.enterOnline.host.Sound := by simp [State.enterOnline, hs]

theorem closeAttempt_sound (reason : FailReason) : (s.closeAttempt reason).host.Sound := by
  unfold State.closeAttempt
  split
  · exact stationClear_sound hs _
  · exact raise_sound hs _

/-! ## A frame at a live replica and roster (R7) -/

@[simp] theorem takeLease_sound (out : LeaseResult) : (s.takeLease out).host.Sound := by
  simpa [State.takeLease] using claimReports_sound out.reports (s := { s with replica := out.replica }) hs

theorem peerGone_sound (d : Delivered) (p : Station) (detail : Byte) (replay : Bool) : (s.peerGone d p detail replay).host.Sound := by
  simp only [State.peerGone]
  split <;> simp [hs]

theorem liveQuit_sound (d : Delivered) (replay : Bool) : (s.liveQuit d replay).host.Sound := by
  unfold State.liveQuit State.ownQuit State.peerQuit
  split_ifs
  · exact hs
  · exact stationClear_sound hs _
  · exact abandonEnds_sound hs
  · exact hs
  · simpa using peerGone_sound hs d _ _ replay
  · exact hs

theorem liveDepart_sound (d : Delivered) (p : Station) (replay : Bool) : (s.liveDepart d p replay).host.Sound := by
  unfold State.liveDepart
  split_ifs
  · exact hs
  · simpa using peerGone_sound hs d p _ replay
  · simpa using hs

theorem liveSnapEnd_sound (d : Delivered) (joiner : Station) : (s.liveSnapEnd d joiner).host.Sound := by
  simp only [State.liveSnapEnd]
  split_ifs <;> simp [hs]

theorem liveBeacon_sound (d : Delivered) (b : BeaconBody) (replay : Bool) : (s.liveBeacon d b replay).host.Sound := by
  unfold State.liveBeacon State.compareDigest
  simp only
  split_ifs <;> simp [hs]

theorem liveEffects_sound (d : Delivered) (replay : Bool) : (s.liveEffects d replay).host.Sound := by
  unfold State.liveEffects
  cases d.frame with
  | claim | drop | extend | withdraw | revoke => exact takeLease_sound hs _
  | quit => exact liveQuit_sound hs d replay
  | depart p => exact liveDepart_sound hs d p replay
  | snapEnd j => exact liveSnapEnd_sound hs d j
  | beacon b => exact liveBeacon_sound hs d b replay
  | found | apply | admitJoiner | decline | snapshot => simpa [State.liveDecline] using hs

theorem applyLive_sound (d : Delivered) (replay : Bool) : (s.applyLive d replay).host.Sound := by
  simpa [State.applyLive] using liveEffects_sound hs d replay

omit hs in
theorem replay_sound (ds : List Delivered) {s : State} (hs : s.host.Sound) : (s.replay ds).host.Sound := by
  induction ds generalizing s with
  | nil => exact hs
  | cons d ds ih => exact ih (applyLive_sound hs d true)

/-! ## A frame handed inward (R158, R159, R101 to R127) -/

theorem joinerDeclined_sound (reason : Byte) : (s.joinerDeclined reason).host.Sound := by
  unfold State.joinerDeclined
  split_ifs
  · exact raise_sound hs _
  · exact stationClear_sound hs _
  · exact stationClear_sound hs _
  · exact hs

theorem completeJoin_sound (a : Attempt) (ap : AdmissionPart) (b : Rebuild) (stamp : Tick) : (s.completeJoin a ap b stamp).host.Sound := by
  have hreplayed : (State.replay { s with replica := (s.leaseContext a.stamp).loadReplica b (ap.capture + a.accepted + 1) s.replica }
      a.catchup).host.Sound := replay_sound _ hs
  simp only [State.completeJoin]
  refine enterOnline_sound ?_
  simpa using hreplayed

theorem joinerSnapEnd_sound (a : Attempt) (ap : AdmissionPart) (digest : Word16) (stamp : Tick) :
    (s.joinerSnapEnd a ap digest stamp).host.Sound := by
  unfold State.joinerSnapEnd
  split
  · split
    · exact completeJoin_sound hs a ap _ stamp
    · simpa using hs
  · simpa using hs
  · simpa using hs

theorem attemptFrame_sound (a : Attempt) (d : Delivered) : (s.attemptFrame a d).host.Sound := by
  unfold State.attemptFrame
  cases d.frame with
  | beacon => exact hs
  | admitJoiner =>
    simp only
    split <;> simp [hs]
  | decline b =>
    simp only
    split
    · exact joinerDeclined_sound hs b.reason
    · exact hs
  | snapshot =>
    cases a.admission with
    | none => exact hs
    | some ap =>
      simp only
      split <;> simp [hs]
  | snapEnd j digest =>
    cases a.admission with
    | none => exact hs
    | some ap =>
      simp only
      split
      · exact joinerSnapEnd_sound hs a ap digest d.stamp
      · exact hs
  | quit | depart =>
    simp only
    split <;> simp [hs]
  | found | apply | revoke | claim | drop | extend | withdraw => simpa using hs

theorem joinerFrame_sound (d : Delivered) : (s.joinerFrame d).host.Sound := by
  have htaken (a : Attempt) : ((s.setAttempt a).attemptFrame a d).host.Sound := attemptFrame_sound (s := s.setAttempt a) hs a d
  unfold State.joinerFrame
  split
  · split
    · split <;> exact hs
    · exact hs
  · split
    · split
      · exact closeAttempt_sound hs _
      · exact hs
    · exact htaken _
    · exact htaken _

theorem leavingFrame_sound (d : Delivered) : (s.leavingFrame d).host.Sound := by
  unfold State.leavingFrame
  split
  · exact hs
  · cases d.frame with
    | quit => exact stationClear_sound hs _
    | found | apply => simpa using hs
    | depart | beacon | admitJoiner | decline | snapshot | snapEnd | revoke | claim | drop | extend | withdraw => exact hs

theorem routeFrame_sound (d : Delivered) : (s.routeFrame d).host.Sound := by
  unfold State.routeFrame
  cases s.member.state with
  | unconfigured | offline => exact hs
  | listen => simpa using hs
  | joining | catchup => exact joinerFrame_sound hs d
  | founding | online => exact applyLive_sound hs d false
  | mute =>
    simp only
    split
    · exact applyLive_sound hs d false
    · exact hs
  | leaving =>
    simp only
    split
    · exact applyLive_sound hs d false
    · exact leavingFrame_sound hs d

theorem receive_sound (d : Delivered) : (s.receive d).host.Sound := by
  unfold State.receive
  extract_lets taken noted cleared t
  have htaken : taken.host.Sound := by
    simp only [taken]
    split <;> exact hs
  have ht : t.host.Sound := by simpa [t] using htaken
  split
  · split
    · exact routeFrame_sound (s := cleared) htaken d
    · exact htaken
  · split
    · exact stationClear_sound ht _
    · exact routeFrame_sound ht d

theorem deliver_sound (k : FrameKind) : (s.deliver k).host.Sound := by
  obtain ⟨-, hd⟩ | ⟨d, rest, -, -, hd⟩ := s.deliver_spec k <;> rw [hd]
  · exact hs
  · exact receive_sound (s := s.dropDelivery) hs d

/-! ## The Command Engine (R98, R100, R124, R38) -/

theorem leaveEarly_sound (tag : Byte) : (s.leaveEarly tag).host.Sound := by
  have hasked : s.withdrawOwn.2.host.Sound := by simpa using hs
  simp only [State.leaveEarly]
  split
  · simpa using hasked
  · exact stationClear_sound hasked _

theorem leaveByQuit_sound (tag : Byte) : (s.leaveByQuit tag).host.Sound := by
  simp only [State.leaveByQuit]
  split <;> simp [hs]

theorem startLeave_sound (tag : Byte) : (s.startLeave tag).host.Sound := by
  unfold State.startLeave
  cases s.member.state with
  | online | founding | catchup => exact leaveByQuit_sound hs tag
  | joining =>
    simp only
    split
    · exact leaveByQuit_sound hs tag
    · exact leaveEarly_sound hs tag
  | listen => exact leaveEarly_sound hs tag
  | mute => exact stationClear_sound hs _
  | unconfigured | offline | leaving => exact hs

section
variable {t : State} {r : CommandRecord}

theorem actAcquire_sound (ht : s.actAcquire r = .ok t) : t.host.Sound := by
  simp only [State.actAcquire] at ht
  split at ht
  · cases ht
  · split at ht <;> cases ht
    exact hs

theorem actRenew_sound (ht : s.actRenew r = .ok t) : t.host.Sound := by
  simp only [State.actRenew] at ht
  split at ht
  · cases ht
  · split at ht <;> cases ht
    exact hs

theorem actRelease_sound (ht : s.actRelease r = .ok t) : t.host.Sound := by
  simp only [State.actRelease] at ht
  split at ht
  · cases ht
  · split at ht <;> cases ht
    exact hs

theorem actCancel_sound (ht : s.actCancel r = .ok t) : t.host.Sound := by
  simp only [State.actCancel] at ht
  split at ht
  · cases ht
  · rename_i i _
    cases hst : (s.slot i).state with
    | sending =>
      simp only [hst] at ht
      split at ht
      · cases ht
      · split at ht <;> cases ht <;> simp [hs]
    | waiting =>
      simp only [hst] at ht
      cases ht
      exact hs
    | empty | held | renewing | releasing | lapsed | withdrawing | ending =>
      simp only [hst] at ht
      cases ht

theorem acting_sound (k : CommandKind) (ht : LocalClaims.acting k r s = .ok t) : t.host.Sound := by
  cases k with
  | configure =>
    obtain rfl := Except.ok.inj ht
    simp [State.configure, hs]
  | join =>
    obtain rfl := Except.ok.inj ht
    exact hs
  | leave =>
    obtain rfl := Except.ok.inj ht
    exact startLeave_sound hs r.tag
  | acquire => exact actAcquire_sound hs ht
  | release => exact actRelease_sound hs ht
  | renew => exact actRenew_sound hs ht
  | cancel => exact actCancel_sound hs ht

end

theorem serve_sound (k : CommandKind) (r : CommandRecord) : (s.serve k r (LocalClaims.acting k)).host.Sound := by
  obtain ⟨-, hserve⟩ | ⟨-, -, hserve⟩ | ⟨-, -, ⟨t, ht, hserve⟩ | ⟨reason, -, hserve⟩⟩ := s.serve_spec k r (LocalClaims.acting k) <;>
    rw [hserve]
  · exact raise_sound hs _
  · exact raise_sound hs _
  · exact acting_sound hs k ht
  · exact raise_sound hs _

/-- What is left open for other events is no part of the bounds. -/
theorem answering_sound {f : State → State} (hf : ∀ u : State, u.host.Sound → (f u).host.Sound) : (s.answering f).host.Sound :=
  hf { s with host := { s.host with later := [] } } hs

theorem exec_taking_sound {t : State} (k : CommandKind) (ht : exec k.taking s = .next t) : t.host.Sound := by
  rw [LocalClaims.exec_taking] at ht
  obtain rfl := Host.Outcome.next.inj ht
  obtain ⟨-, htake⟩ | ⟨r, rest, -, -, htake⟩ := s.takeRecord_spec k (LocalClaims.acting k) <;> rw [htake]
  · exact hs
  · exact answering_sound hs fun u hu => serve_sound (dropCommand_sound hu) k r

theorem badCommandRecord_sound {t : State} (ht : exec .badCommandRecord s = .next t) : t.host.Sound := by
  obtain rfl := Host.Outcome.next.inj ht
  split
  · exact hs
  · split
    · exact answering_sound hs fun u hu => raise_sound (dropCommand_sound hu) _
    · exact hs

end

/-! ## SPI transactions (R166 to R184) -/

section
variable {s : State} (hs : s.host.Sound)
include hs

theorem ignoreByte_sound {t : Transaction} (ht : s.host.transaction = some t) : (s.ignoreByte t).host.Sound := by
  rw [s.ignoreByte_spec t ht]
  exact withTransaction_sound hs fun hp => place_of_sound hs ht (Option.some.inj hp)

/-- A transaction keeps the bounds where a place is held only with room, a byte clocked after the access byte keeps them, and CS_N rising keeps them
with a held place that is free. -/
theorem spi_sound (e : SpiEdge) (owns : Byte → Bool) {latch : State → Transaction → Transaction} {byteDone closed : Transaction → State → State}
    (hlatch : ∀ t, (latch s t).place = true → t.place = true ∨ s.host.commands.length < 4)
    (hbyte : ∀ t (u : State), u.host.transaction = some t → u.host.Sound → (byteDone t u).host.Sound)
    (hclosed : ∀ t (u : State), (t.place = true → u.host.commands.length < 4) → u.host.transaction = none → u.host.Sound →
      (closed t u).host.Sound) :
    (s.spi e owns latch byteDone closed).host.Sound := by
  have hended : (s.setTransaction none).host.Sound := withTransaction_sound hs fun hp => by cases hp
  obtain hspi | ⟨-, -, hspi⟩ | ⟨t, ht, ⟨-, hspi⟩ | ⟨b, -, -, hspi⟩ | ⟨b, -, -, -, hspi⟩ | ⟨b, a, -, -, -, hspi⟩ | ⟨a, -, -, -, hspi⟩⟩ :=
    s.spi_spec e owns latch byteDone closed <;> rw [hspi]
  · exact hs
  · exact withTransaction_sound hs fun hp => by cases hp
  · exact hended
  · exact ignoreByte_sound hs ht
  · refine withTransaction_sound hs fun hp => ?_
    obtain hheld | hroom := hlatch (t.named b) (Option.some.inj hp)
    · exact place_of_sound hs ht hheld
    · exact hroom
  · refine hbyte _ _ rfl (withTransaction_sound hs fun hp => ?_)
    exact place_of_sound hs ht (Option.some.inj hp)
  · have hroom : t.place = true → s.host.commands.length < 4 := place_of_sound hs ht
    exact hclosed t _ hroom rfl hended

theorem takeClocked_sound (t : Transaction) : (takeClocked t s).host.Sound := by
  unfold takeClocked
  split
  · exact take_sound hs
  · exact hs

theorem viewNamed_sound (view : State → Byte → List Byte) {t : Transaction} (ht : s.host.transaction = some t) :
    (viewNamed view t s).host.Sound := by
  unfold viewNamed
  split
  · exact withTransaction_sound hs fun hp => place_of_sound hs ht (Option.some.inj hp)
  · exact hs

/-- The record goes to the place that was held for it (R168). -/
theorem putClosed_sound {t : Transaction} (hroom : t.place = true → s.host.commands.length < 4) (hnone : s.host.transaction = none) :
    (putClosed t s).host.Sound := by
  unfold putClosed
  split
  · rename_i hp
    unfold HostPort.putRecord
    split
    · obtain ⟨-, hevents, hdropped, hfull, hattn, -⟩ := hs
      refine ⟨?_, hevents, hdropped, hfull, hattn, fun hheld => ?_⟩
      · simpa using hroom hp
      · simp [hnone] at hheld
    · exact hs
  · exact hs

omit hs in
theorem resetClosed_sound (t : Transaction) (hnone : s.host.transaction = none) : (resetClosed t s).host.Sound := by
  refine ⟨Nat.zero_le _, ?_, Nat.zero_le _, fun h0 => absurd rfl h0, rfl, fun hheld => ?_⟩
  · exact Nat.le_of_lt_succ (by simp [resetClosed, HostPort.portReset])
  · simp [resetClosed, HostPort.portReset, hnone] at hheld

end

/-! ## Expiries and the line (R23, R43, R88, R82, R102 to R123, R133 to R162) -/

section
variable {s t : State} (hs : s.host.Sound)
include hs

theorem replicaExpiry_sound (r : Fin 64) (p : Station) : (s.replicaExpiry r p).host.Sound := by
  unfold State.replicaExpiry
  split
  · split
    · simp only [State.expireHolder]
      split <;> exact hs
    · exact hs
  · exact hs

theorem selfExpiry_sound {i : Fin 8} (ht : exec (.selfExpiry i) s = .next t) : t.host.Sound := by
  obtain rfl := Host.Outcome.next.inj ht
  split
  · exact selfExpire_sound hs i
  · exact hs

theorem presenceExpiry_sound (p : Station) : (s.presenceExpiry p).host.Sound := by
  simp only [State.presenceExpiry]
  split_ifs <;> exact hs

theorem fireBeacon_sound : s.fireBeacon.host.Sound := by
  simp only [State.fireBeacon]
  split <;> exact hs

theorem beaconSchedule_sound (ht : exec .beaconSchedule s = .next t) : t.host.Sound := by
  obtain rfl := Host.Outcome.next.inj ht
  split
  · split
    · exact fireBeacon_sound (s := s.advanceBeacon _) hs
    · exact hs
  · exact hs

theorem listenWindow_sound (ht : exec .listenWindow s = .next t) : t.host.Sound := by
  obtain rfl := Host.Outcome.next.inj ht
  split
  · simpa using hs
  · exact hs

theorem foundingPeriod_sound (ht : exec .foundingPeriod s = .next t) : t.host.Sound := by
  obtain rfl := Host.Outcome.next.inj ht
  split
  · exact enterOnline_sound hs
  · exact hs

theorem joinAttemptTimer_sound (ht : exec .joinAttemptTimer s = .next t) : t.host.Sound := by
  obtain rfl := Host.Outcome.next.inj ht
  split
  · simpa using hs
  · exact hs

theorem joinBackoff_sound (ht : exec .joinBackoff s = .next t) : t.host.Sound := by
  obtain rfl := Host.Outcome.next.inj ht
  split
  · simpa using hs
  · exact hs

theorem roundEnd_sound (ht : exec .roundEnd s = .next t) : t.host.Sound := by
  obtain rfl := Host.Outcome.next.inj ht
  split
  · split
    · exact endRound_sound hs _
    · exact hs
  · exact hs

theorem frameDiscarded_sound (id : FrameId) : (s.frameDiscarded id).host.Sound := by
  have hown (k : OwnKind) : (s.ownDiscarded k).host.Sound := by
    unfold State.ownDiscarded
    split
    · exact stationClear_sound hs _
    · simpa using hs
  cases id with
  | claim | drop | extend | withdraw => exact claimDiscarded_sound hs _ _
  | revoke | depart => simpa [State.frameDiscarded] using hs
  | found | apply | quit => exact hown _
  | beacon | stream | decline => exact hs

@[simp] theorem orphanDiscarded_sound (id : FrameId) : (s.orphanDiscarded id).host.Sound := by
  unfold State.orphanDiscarded
  split <;> exact hs

@[simp] theorem attemptLost_sound : s.attemptLost.host.Sound := by
  let ended : State := { s with tx := s.tx.lose.2 }
  simp only [State.attemptLost]
  split
  · exact hs
  · exact hs
  · exact frameDiscarded_sound (s := ended) hs _
  · exact orphanDiscarded_sound (s := ended) hs _

theorem idleReport_sound : s.idleReport.host.Sound := by
  obtain ⟨e, -, -, -, -, hidle⟩ | ⟨-, hidle⟩ := s.idleReport_spec <;> rw [hidle] <;> exact hs

theorem loseArbitration_sound (levels : List Level) : (s.loseArbitration levels).host.Sound := by
  unfold State.loseArbitration
  split
  · exact hs
  · split
    · exact hs
    · split <;> simp [hs]

theorem acceptFrame_sound (levels : List Level) : (s.acceptFrame levels).host.Sound := by
  unfold State.acceptFrame
  split
  · exact hs
  · split
    · exact hs
    · split
      · exact hs
      · split
        · split
          · exact hs
          · split <;> simp [hs]
        · exact hs

theorem muteOnOwn_sound (counted : Bool) : (s.muteOnOwn counted).host.Sound := by
  unfold State.muteOnOwn
  split
  · exact enterMute_sound hs _ _
  · exact hs

theorem muteOnIssued_sound (counted : Bool) : (s.muteOnIssued counted).host.Sound := by
  unfold State.muteOnIssued
  split
  · exact enterMute_sound hs _ _
  · exact hs

theorem ownVetoed_sound (levels : List Level) (misread : Bool) : (s.ownVetoed levels misread).host.Sound := by
  simp only [State.ownVetoed, State.settleRate_frame]
  exact muteOnOwn_sound (attemptLost_sound (by simpa using hs)) _

theorem otherVetoed_sound (levels : List Level) (faulty : Bool) : (s.otherVetoed levels faulty).host.Sound := by
  simp only [State.otherVetoed]
  exact muteOnIssued_sound (by simpa using hs) _

theorem missInBody_sound (levels : List Level) : (s.missInBody levels).host.Sound := by
  simp only [State.missInBody]
  exact muteOnIssued_sound (by simpa using hs) _

theorem vetoFrame_sound (levels window : List Level) : (s.vetoFrame levels window).host.Sound := by
  unfold State.vetoFrame
  split
  · exact hs
  · split
    · split
      · exact ownVetoed_sound hs _ _
      · exact hs
    · split
      · exact otherVetoed_sound hs _ _
      · exact hs

theorem missOrphan_sound (levels : List Level) : (s.missOrphan levels).host.Sound := by
  unfold State.missOrphan
  split <;> simp [hs]

theorem missFrame_sound (levels : List Level) : (s.missFrame levels).host.Sound := by
  unfold State.missFrame
  split
  · exact hs
  · split
    · split
      · exact missOrphan_sound hs levels
      · exact hs
    · split
      · exact hs
      · split_ifs
        · exact missInBody_sound hs levels
        · exact hs
        · exact hs

theorem dominantRead_sound : s.dominantRead.host.Sound := by
  unfold State.dominantRead
  cases s.line.phase with
  | idle | seekingIdle | inFrame | silent => exact hs

/-! ## Every command -/

theorem exec_sound (c : Instr) (ht : exec c s = .next t) : t.host.Sound := by
  have hnamed : ∀ u : Transaction, u.place = true → u.place = true ∨ s.host.commands.length < 4 := fun _ => .inl
  cases c with
  | deviceReset =>
    obtain rfl := Host.Outcome.next.inj ht
    exact resetEdge_sound s.host
  | fineTick =>
    obtain rfl := Host.Outcome.next.inj ht
    split <;> exact hs
  | putCommand e =>
    obtain rfl := Host.Outcome.next.inj ht
    exact spi_sound hs e _ (fun _ hp => .inr (of_decide_eq_true hp)) (fun _ _ _ => id) fun _ _ hroom hnone hu => putClosed_sound hu hroom hnone
  | takeEvent e =>
    obtain rfl := Host.Outcome.next.inj ht
    exact spi_sound hs e _ hnamed (fun u _ _ hu => takeClocked_sound hu u) fun _ _ _ _ => id
  | readStatus e | voidAccess _ e =>
    obtain rfl := Host.Outcome.next.inj ht
    exact spi_sound hs e _ hnamed (fun _ _ _ => id) fun _ _ _ _ => id
  | readLease e | readRoster e =>
    obtain rfl := Host.Outcome.next.inj ht
    exact spi_sound hs e _ hnamed (fun _ _ hu hsound => viewNamed_sound hsound _ hu) fun _ _ _ _ => id
  | portReset e =>
    obtain rfl := Host.Outcome.next.inj ht
    exact spi_sound hs e _ hnamed (fun _ _ _ => id) fun u _ _ hnone _ => resetClosed_sound u hnone
  | badCommandRecord => exact badCommandRecord_sound hs ht
  | configure => exact exec_taking_sound hs .configure ht
  | join => exact exec_taking_sound hs .join ht
  | leave => exact exec_taking_sound hs .leave ht
  | acquire => exact exec_taking_sound hs .acquire ht
  | release => exact exec_taking_sound hs .release ht
  | renew => exact exec_taking_sound hs .renew ht
  | cancel => exact exec_taking_sound hs .cancel ht
  | frameStart =>
    obtain rfl := Host.Outcome.next.inj ht
    exact idleReport_sound hs
  | arbitrationLoss levels =>
    obtain rfl := Host.Outcome.next.inj ht
    exact loseArbitration_sound hs levels
  | frameAccepted levels =>
    obtain rfl := Host.Outcome.next.inj ht
    exact acceptFrame_sound hs levels
  | frameVetoed read =>
    obtain rfl := Host.Outcome.next.inj ht
    split
    · exact hs
    · exact vetoFrame_sound hs _ _
  | missedFrame levels =>
    obtain rfl := Host.Outcome.next.inj ht
    exact missFrame_sound hs levels
  | claimFrame | dropFrame | extendFrame | withdrawFrame | revokeFrame | quitFrame | departFrame | foundFrame | applyFrame | admitFrame
  | declineFrame | snapshotFrame | snapEndFrame | beaconFrame =>
    obtain rfl := Host.Outcome.next.inj ht
    exact deliver_sound hs _
  | replicaDeadline r p =>
    obtain rfl := Host.Outcome.next.inj ht
    exact replicaExpiry_sound hs r p
  | selfExpiry i => exact selfExpiry_sound hs ht
  | presenceDeadline p =>
    obtain rfl := Host.Outcome.next.inj ht
    exact presenceExpiry_sound hs p
  | beaconSchedule => exact beaconSchedule_sound hs ht
  | listenWindow => exact listenWindow_sound hs ht
  | foundingPeriod => exact foundingPeriod_sound hs ht
  | joinAttemptTimer => exact joinAttemptTimer_sound hs ht
  | joinBackoff => exact joinBackoff_sound hs ht
  | roundEnd => exact roundEnd_sound hs ht
  | lineIdle =>
    obtain rfl := Host.Outcome.next.inj ht
    exact hs
  | startBitRead =>
    obtain rfl := Host.Outcome.next.inj ht
    exact dominantRead_sound hs

/-- With no command waiting an event on its way arrives; otherwise the front command is run. -/
theorem step_sound (ht : step s = .next t) : t.host.Sound := by
  unfold step at ht
  split at ht
  · obtain rfl := Host.Outcome.next.inj ht
    exact arrive_sound hs
  · rename_i c rest _
    exact exec_sound (s := { s with pending := rest }) hs c ht

end

/-- Settles O14: every command keeps the bounds, and so does the idle step. -/
theorem hostPortStaysSound : Obligations.HostPortStaysSound :=
  ⟨fun c _ _ hs ht => exec_sound hs c ht, fun _ _ hs ht => step_sound hs ht⟩

end Sys2Proof.HostQueues
end

section
/-! PROOF. The transactions of the Host Port (spec/08, R166 to R168, R176 to R184, R190 to R192): what each edge of a transaction does, once for every
row; then the rows, and the layouts of the three views. -/

namespace Sys2Proof.HostTransactions

open Sys2Proof.Machine

/-! ## The edges of a transaction (R166, R167, R186) -/

section
variable {s : State} {t : Transaction} {owns : Byte → Bool} {latch : State → Transaction → Transaction}
  {byteDone closed : Transaction → State → State}

theorem spi_csFalls (ht : s.host.transaction = none) : s.spi .csFalls owns latch byteDone closed = s.setTransaction (some s.host.begun) := by
  simp only [State.spi, ht]

theorem spi_access_byte (ht : s.host.transaction = some t) (hst : t.standing = .taken) (ha : t.access = none) {b : Byte} (ho : owns b = true) :
    s.spi (.byte b) owns latch byteDone closed = s.setTransaction (some (latch s (t.named b))) := by
  simp only [State.spi, ht, hst, ha, ho, if_true]

theorem spi_later_byte (ht : s.host.transaction = some t) (hst : t.standing = .taken) {a : Byte} (ha : t.access = some a) (ho : owns a = true)
    (b : Byte) : s.spi (.byte b) owns latch byteDone closed = byteDone (t.clocked b) (s.setTransaction (some (t.clocked b))) := by
  simp only [State.spi, ht, hst, ha, ho, if_true]

theorem spi_csRises (ht : s.host.transaction = some t) (hst : t.standing = .taken) {a : Byte} (ha : t.access = some a) (ho : owns a = true) :
    s.spi .csRises owns latch byteDone closed = closed t (s.setTransaction none) := by
  simp only [State.spi, ht, hst, ha, ho, if_true]

theorem spi_csRises_unnamed (ht : s.host.transaction = some t) (hst : t.standing = .taken) (ha : t.access = none) :
    s.spi .csRises owns latch byteDone closed = s.setTransaction none := by
  simp only [State.spi, ht, hst, ha]

/-- CS_N rising ends a transaction that the port has not taken. -/
theorem spi_csRises_not_taken (ht : s.host.transaction = some t) (hst : t.standing ≠ .taken) :
    s.spi .csRises owns latch byteDone closed = s.setTransaction none := by
  cases hstanding : t.standing with
  | taken => exact absurd hstanding hst
  | cutOff | void => simp only [State.spi, ht, hstanding]

/-- A byte of a transaction that the port has not taken is ignored. -/
theorem spi_byte_not_taken (ht : s.host.transaction = some t) (hst : t.standing ≠ .taken) (b : Byte) :
    s.spi (.byte b) owns latch byteDone closed
      = s.setTransaction (some { t with sdo := t.sdo ++ if t.standing = .void ∧ s.host.rstN = true then [0] else [] }) := by
  rw [← s.ignoreByte_spec t ht]
  cases hstanding : t.standing with
  | taken => exact absurd hstanding hst
  | cutOff | void => simp only [State.spi, ht, hstanding]

end

/-- A byte clocked after the access byte, in the words of the statements. -/
theorem clocked_eq (t : Transaction) (b : Byte) :
    t.clocked b = { t with mosi := t.mosi ++ [b], answer := t.answer.drop 1, sdo := t.sdo ++ [t.answer.head?.getD 0] } := by
  rw [Transaction.clocked, List.drop_one, List.headD_eq_head?_getD]

/-- An access code names its own row. -/
theorem owns_code (k : AccessKind) : k.owns k.code = true := beq_self_eq_true k.code

/-! ## PUT_COMMAND (R168) -/

/-- The response byte and the place are decided by the room in the Command Queue. -/
theorem latchResponse_eq (s : State) (t : Transaction) :
    latchResponse s t
      = { t with answer := [if s.host.commands.length < 4 then 0xA5 else 0x5A], place := decide (s.host.commands.length < 4) } := by
  by_cases hroom : s.host.commands.length < 4 <;>
    simp [latchResponse, HostPort.response, HostPort.hasPlace, Config.commandQueueSize, responseAccept, responseFull, hroom]

/-- What a PUT_COMMAND leaves at the tail of the Command Queue. -/
theorem putClosed_eq (t : Transaction) (s : State) :
    putClosed t s = { s with host := { s.host with commands := s.host.commands
      ++ if t.place = true then (CommandRecord.ofBytes t.mosi).toList else [] } } := by
  unfold putClosed HostPort.putRecord
  cases t.place with
  | false => simp
  | true => cases CommandRecord.ofBytes t.mosi <;> simp

/-- The record of a held place is made of the first eight bytes; fewer than eight make none. -/
theorem recordOf_eq (place : Bool) (bs : List Byte) :
    (if place = true then (CommandRecord.ofBytes bs).toList else []) = match bs with
      | b0 :: b1 :: b2 :: b3 :: b4 :: b5 :: b6 :: b7 :: _ =>
        if place = true then [{ kind := b0, tag := b1, p1 := b2, p2 := b3, p3 := b4, p4 := b5, p5 := b6, check := b7 }] else []
      | _ => [] := by
  match bs with
  | [] | [_] | [_, _] | [_, _, _] | [_, _, _, _] | [_, _, _, _, _] | [_, _, _, _, _, _] | [_, _, _, _, _, _, _]
  | _ :: _ :: _ :: _ :: _ :: _ :: _ :: _ :: _ => cases place <;> rfl

/-- Settles O8: the access byte decides, the later bytes are only clocked, and CS_N rising uses the place or frees it. -/
theorem putCommandAcceptsOrDiscards : Obligations.PutCommandAcceptsOrDiscards := by
  intro s t ht hst held
  have ho : AccessKind.putCommand.owns 0x01 = true := owns_code .putCommand
  refine ⟨fun ha => ?_, fun ha b => ?_, fun ha => ?_⟩
  · rw [exec, execPutCommand, spi_access_byte ht hst ha ho, latchResponse_eq]
    rfl
  · rw [exec, execPutCommand, spi_later_byte ht hst ha ho, clocked_eq]
    rfl
  · rw [exec, execPutCommand, spi_csRises ht hst ha ho, putClosed_eq, recordOf_eq]
    rfl

/-! ## TAKE_EVENT (R176, R177, R179) -/

/-- The eighth byte of a record that was latched from the queue takes the record out. -/
theorem takeClocked_of_eighth {t : Transaction} (hrecord : t.record = true) (hlen : t.mosi.length = 8) (s : State) :
    takeClocked t s = { s with host := s.host.take } := by
  simp [takeClocked, hrecord, hlen]

theorem takeClocked_of_other {t : Transaction} (hother : t.mosi.length ≠ 8 ∨ t.record = false) (s : State) : takeClocked t s = s := by
  unfold takeClocked
  rw [if_neg]
  simp only [Bool.and_eq_true, beq_iff_eq, not_and]
  intro hrecord hlen
  obtain hne | hnone := hother
  · exact hne hlen
  · exact absurd hrecord (by simp [hnone])

theorem take_cons {h : HostPort} {e : EventRecord} {rest : List EventRecord} (he : h.events = e :: rest) :
    h.take = { h with events := h.afterTake rest, dropped := 0, attnN := (h.afterTake rest).isEmpty } := by
  simp only [HostPort.take, he]

/-- Settles O9: the access byte latches the head record, the eighth byte takes it out, and nothing else does. -/
theorem takeEventRemovesTheHeadAndReportsDrops : Obligations.TakeEventRemovesTheHeadAndReportsDrops := by
  intro s t ht hst after
  have ho : AccessKind.takeEvent.owns 0x02 = true := owns_code .takeEvent
  have hafter (b : Byte) : t.clocked b = after b := clocked_eq t b
  have hlen (b : Byte) : (after b).mosi.length = t.mosi.length + 1 := List.length_append
  refine ⟨fun ha => ?_, fun ha b e rest he => ?_, fun ha b hother => ?_, fun ha => ?_⟩
  · rw [exec, execTakeEvent, spi_access_byte ht hst ha ho]
    rfl
  · intro left h7 hrecord
    have htake := take_cons (h := (s.setTransaction (some (after b))).host) he
    rw [exec, execTakeEvent, spi_later_byte ht hst ha ho, hafter, takeClocked_of_eighth (t := after b) hrecord (by rw [hlen b, h7]),
      htake]
    rfl
  · have hother' : (after b).mosi.length ≠ 8 ∨ (after b).record = false := hother.imp_left fun h7 h8 => h7 (by have := hlen b; omega)
    rw [exec, execTakeEvent, spi_later_byte ht hst ha ho, hafter, takeClocked_of_other hother']
    rfl
  · rw [exec, execTakeEvent, spi_csRises ht hst ha ho]
    rfl

/-! ## PORT_RESET (R184) -/

theorem portResetEvent_eq (s : State) :
    s.portResetEvent = { kind := .portReset, tag := 0, subject := (match s.config with | some c => BitVec.ofNat 8 c.station.val | none => 0),
                         grant := BitVec.ofNat 16 s.host.events.length, detail := 0, count := BitVec.ofNat 8 s.host.commands.length } := by
  have hme : stationByte s.me = (match s.config with | some c => BitVec.ofNat 8 c.station.val | none => 0) := by
    unfold State.me State.cfg
    cases s.config <;> rfl
  rw [State.portResetEvent, State.stationEvent, hme]

/-- Settles O13: CS_N rising leaves the one record of the reset. -/
theorem portResetEmptiesTheQueues : Obligations.PortResetEmptiesTheQueues := by
  intro s t ht hst ha
  rw [exec, execPortReset, spi_csRises ht hst ha (owns_code .portReset), resetClosed, portResetEvent_eq]
  rfl

/-! ## Rows that latch nothing, and edges that no row owns (R166, R167, R186, R190) -/

/-- Every row is one of the transactions, with what it latches and does. -/
theorem row_spi {a : Byte} {row : SpiEdge → Instr}
    (hrow : row ∈ [Instr.putCommand, .takeEvent, .readStatus, .readLease, .readRoster, .portReset, .voidAccess a]) :
    ∃ owns latch byteDone closed, ∀ (e : SpiEdge) (s : State), exec (row e) s = .next (s.spi e owns latch byteDone closed) := by
  simp only [List.mem_cons, List.not_mem_nil, or_false] at hrow
  obtain rfl | rfl | rfl | rfl | rfl | rfl | rfl := hrow <;> exact ⟨_, _, _, _, fun _ _ => rfl⟩

/-- A second byte after the one that names the resource or the station takes no view. -/
theorem viewNamed_of_taken (view : State → Byte → List Byte) {t : Transaction} (hmosi : t.mosi ≠ []) (b : Byte) (s : State) :
    viewNamed view (t.clocked b) s = s := by
  unfold viewNamed Transaction.clocked
  split
  · rename_i heq
    simp [List.append_eq_singleton_iff, hmosi] at heq
  · rfl

theorem namesNoKind_self {a : Byte} (h : AccessKind.ofCode a = none) : namesNoKind a a = true := by
  simp [namesNoKind, h]

theorem ofCode_eq_none {a : Byte} (h1 : a ≠ 0x01) (h2 : a ≠ 0x02) (h3 : a ≠ 0x03) (h4 : a ≠ 0x04) (h5 : a ≠ 0x05) (h15 : a ≠ 0x0F) :
    AccessKind.ofCode a = none := by
  refine List.find?_eq_none.mpr fun k _ hk => ?_
  have hcode : a = k.code := (beq_iff_eq.mp hk).symm
  cases k with
  | putCommand => exact h1 hcode
  | takeEvent => exact h2 hcode
  | readStatus => exact h3 hcode
  | readLease => exact h4 hcode
  | readRoster => exact h5 hcode
  | portReset => exact h15 hcode

/-- A quiet row latches nothing at its access byte; a byte after it has no effect once a view is taken, or where there is none; and CS_N rising has
none but for PORT_RESET. -/
structure Quiet (row : SpiEdge → Instr) (code a : Byte) (byteDone closed : Transaction → State → State) (owns : Byte → Bool) : Prop where
  exec_eq : ∀ (e : SpiEdge) (s : State), exec (row e) s = .next (s.spi e owns latchNothing byteDone closed)
  owned : owns code = true
  later : ∀ t : Transaction, (t.mosi ≠ [] ∨ code = 0x0F ∨ code = a) → ∀ (b : Byte) (s : State), byteDone (t.clocked b) s = s
  rises : code ≠ 0x0F → ∀ (t : Transaction) (s : State), closed t s = s

theorem quiet_rows {a : Byte} (hnone : AccessKind.ofCode a = none) (h4 : a ≠ 0x04) (h5 : a ≠ 0x05) {p : (SpiEdge → Instr) × Byte}
    (hp : p ∈ [(Instr.readLease, 0x04#8), (Instr.readRoster, 0x05#8), (Instr.portReset, 0x0F#8), (Instr.voidAccess a, a)]) :
    ∃ byteDone closed owns, Quiet p.1 p.2 a byteDone closed owns := by
  simp only [List.mem_cons, List.not_mem_nil, or_false] at hp
  obtain rfl | rfl | rfl | rfl := hp
  · refine ⟨_, _, _, fun _ _ => rfl, owns_code .readLease, fun t h b s => ?_, fun _ _ _ => rfl⟩
    exact viewNamed_of_taken _ (h.resolve_right (not_or.mpr ⟨by decide, h4.symm⟩)) b s
  · refine ⟨_, _, _, fun _ _ => rfl, owns_code .readRoster, fun t h b s => ?_, fun _ _ _ => rfl⟩
    exact viewNamed_of_taken _ (h.resolve_right (not_or.mpr ⟨by decide, h5.symm⟩)) b s
  · exact ⟨_, _, _, fun _ _ => rfl, owns_code .portReset, fun _ _ _ _ => rfl, fun h => absurd rfl h⟩
  · exact ⟨_, _, _, fun _ _ => rfl, namesNoKind_self hnone, fun _ _ _ _ => rfl, fun _ _ _ => rfl⟩

/-- Settles O12: the edges that begin and end a transaction, whatever its row; then those of a quiet row. -/
theorem transactionsFollowTheirEdges : Obligations.TransactionsFollowTheirEdges := by
  intro s a h1 h2 h3 h4 h5 h15 left quiet
  refine ⟨fun row hrow => ?_, fun p hp t ht hst => ?_⟩
  · obtain ⟨owns, latch, byteDone, closed, hexec⟩ := row_spi hrow
    refine ⟨fun hnone => ?_, fun t ht hst ha => ?_, fun t ht hst => ⟨?_, fun b => ?_⟩⟩
    · rw [hexec, spi_csFalls hnone]
      rfl
    · rw [hexec, spi_csRises_unnamed ht hst ha]
      rfl
    · rw [hexec, spi_csRises_not_taken ht hst]
      rfl
    · rw [hexec, spi_byte_not_taken ht hst]
      rfl
  · obtain ⟨byteDone, closed, owns, hquiet⟩ := quiet_rows (ofCode_eq_none h1 h2 h3 h4 h5 h15) h4 h5 hp
    refine ⟨fun ha => ?_, fun ha hlater b => ?_, fun ha hne => ?_⟩
    · rw [hquiet.exec_eq, spi_access_byte ht hst ha hquiet.owned]
      rfl
    · rw [hquiet.exec_eq, spi_later_byte ht hst ha hquiet.owned, hquiet.later t hlater, clocked_eq]
      rfl
    · rw [hquiet.exec_eq, spi_csRises ht hst ha hquiet.owned, hquiet.rises hne]
      rfl

/-! ## Bytes and flags of the views (R191, R192) -/

theorem extractLsb'_eq_ofNat {n : Nat} (w : BitVec n) (start len : Nat) : w.extractLsb' start len = BitVec.ofNat len (w.toNat / 2 ^ start) := by
  rw [BitVec.extractLsb', Nat.shiftRight_eq_div_pow]

/-- The low byte of a word. -/
theorem low_byte {n : Nat} (w : BitVec n) : w.extractLsb' 0 8 = BitVec.ofNat 8 (w.toNat % 256) := by
  apply BitVec.eq_of_toNat_eq
  simp [BitVec.extractLsb'_toNat]

theorem word16Bytes_eq (w : Word16) : word16Bytes w = [BitVec.ofNat 8 (w.toNat / 256), BitVec.ofNat 8 (w.toNat % 256)] := by
  rw [word16Bytes, low_byte, extractLsb'_eq_ofNat]
  rfl

/-! ## The status block (R181, R191) -/

theorem statusHead_eq (s : State) :
    s.statusHead =
      [ BitVec.ofNat 8 (s.member.state.code * 16 + s.me.val),
        BitVec.ofNat 8 (s.timebase.state.code * 64 + (if s.shownAdmission.isSome then 32 else 0)
          + (if s.shownAdmission.map (fun a => a.admitter) = some s.me then 16 else 0) + s.onlinePeers),
        BitVec.ofNat 8 ((s.member.incarnation.getD 0).toNat / 256), BitVec.ofNat 8 ((s.member.incarnation.getD 0).toNat % 256) ] := by
  simp only [State.statusHead, word16Bytes_eq]
  cases s.shownAdmission with
  | none => simp [flagAt, byteOf, Nat.mul_comm]
  | some a => simp [flagAt, byteOf, Nat.mul_comm]

theorem statusConfig_eq (s : State) :
    s.statusConfig =
      [ BitVec.ofNat 8 (s.cfg.rate.toNat * 64 + s.host.commands.length * 8 + s.cfg.misses.toNat),
        s.cfg.beaconPeriod,
        s.cfg.guard,
        BitVec.ofNat 8 (if s.config.isSome then s.cfg.lastResource.toNat + 1 else 0),
        s.cfg.groupKey ] := by
  simp only [State.statusConfig, State.cfg, Nat.mul_comm 64, Nat.mul_comm 8]
  cases s.config with
  | none => rfl
  | some k => rfl

/-- The two high bits of the trim word in its ten bits. -/
theorem trimBits_high (t : Timebase) : (t.trimBits.extractLsb' 8 2).toNat = t.trimBits.toNat / 256 := by
  have hlt : t.trimBits.toNat < 1024 := t.trimBits.isLt
  rw [BitVec.extractLsb'_toNat, Nat.shiftRight_eq_div_pow]
  omega

theorem statusCounts_eq (s : State) :
    s.statusCounts =
      [ BitVec.ofNat 8 (s.line.ownVetoes * 8 + s.timebase.trimBits.toNat / 256), BitVec.ofNat 8 (s.timebase.trimBits.toNat % 256),
        BitVec.ofNat 8 s.host.events.length,
        BitVec.ofNat 8 s.tx.entries.length,
        BitVec.ofNat 8 s.host.dropped,
        BitVec.ofNat 8 ((if s.replica.live then s.replica.seq else 0).toNat / 256),
        BitVec.ofNat 8 ((if s.replica.live then s.replica.seq else 0).toNat % 256),
        BitVec.ofNat 8 (s.digest.toNat / 256), BitVec.ofNat 8 (s.digest.toNat % 256),
        BitVec.ofNat 8 (match s.shownAdmission with | some a => a.joiner.val * 16 + a.admitter.val | none => 0),
        BitVec.ofNat 8 s.line.issuedVetoes,
        BitVec.ofNat 8 (s.line.arbitrationLosses.toNat / 256), BitVec.ofNat 8 (s.line.arbitrationLosses.toNat % 256),
        BitVec.ofNat 8 (s.replica.stale.toNat / 256), BitVec.ofNat 8 (s.replica.stale.toNat % 256) ] := by
  have hseq : s.replica.shown.seq = if s.replica.live then s.replica.seq else 0 := by
    unfold Replica.shown
    cases s.replica.live <;> rfl
  simp only [State.statusCounts, hseq, word16Bytes_eq, low_byte, trimBits_high, Nat.mul_comm 8, Nat.mul_comm 16]
  rfl

/-- Settles O10: the access byte latches the block, whose three parts have the layout of R191. -/
theorem statusBlockHasItsLayout : Obligations.StatusBlockHasItsLayout := by
  intro s t ht hst c opened trim inc seq byte hi lo
  have ho : AccessKind.readStatus.owns 0x03 = true := owns_code .readStatus
  refine ⟨fun ha => ?_, fun ha b => ?_, fun ha => ?_⟩
  · rw [exec, execReadStatus, spi_access_byte ht hst ha ho, latchStatus, State.statusBlock, statusHead_eq, statusConfig_eq, statusCounts_eq]
    rfl
  · rw [exec, execReadStatus, spi_later_byte ht hst ha ho, clocked_eq]
    rfl
  · rw [exec, execReadStatus, spi_csRises ht hst ha ho]
    rfl

/-! ## The lease view (R182, R192) -/

theorem reached_eq (now d : Tick) : reached now d = decide (0 ≤ (now - d).toInt) :=
  Bool.eq_iff_iff.mpr ((reached_iff now d).trans decide_eq_true_iff.symm)

theorem entry_shown (rep : Replica) (r : Fin 64) :
    rep.shown.entry r.val = if rep.live then rep.table[r] else { state := .free, counter := 0, holders := [], waiters := [] } := by
  rw [Replica.entry_fin, Replica.shown]
  cases rep.live with
  | false => simp [Replica.clear, ResourceEntry.clear]
  | true => rfl

/-- A station appears in the list of a set exactly if a lookup finds it. -/
theorem holder?_isSome (e : ResourceEntry) (p : Station) : (e.holder? p).isSome = e.holders.any (fun h => h.station == p) :=
  Bool.eq_iff_iff.mpr (List.find?_isSome.trans List.any_eq_true.symm)

theorem waiter?_isSome (e : ResourceEntry) (p : Station) : (e.waiter? p).isSome = e.waiters.any (fun w => w.station == p) :=
  Bool.eq_iff_iff.mpr (List.find?_isSome.trans List.any_eq_true.symm)

theorem headByte_eq (e : ResourceEntry) :
    e.headByte = (match e.waiters.head? with
      | none => 0
      | some w => BitVec.ofNat 8 (128 + 16 * (match w.mode with | .exclusive => 1 | .shared => 2) + w.station.val)) := by
  unfold ResourceEntry.headByte
  cases e.waiters with
  | nil => rfl
  | cons w ws => cases hm : w.mode <;> simp [hm, Mode.code, byteOf]

theorem roleByte_eq (e : ResourceEntry) (me : Station) :
    e.roleByte me = if (e.holder? me).isSome then 64
      else match e.waiters.findIdx? (fun w => w.station == me) with | none => 0 | some i => BitVec.ofNat 8 (128 + (i + 1)) := by
  have hwaits : (e.waiter? me).isSome = (e.waiters.findIdx? (fun w => w.station == me)).isSome := by
    rw [waiter?_isSome, List.findIdx?_isSome]
  unfold ResourceEntry.roleByte ResourceEntry.position
  rw [hwaits]
  split
  · rfl
  · cases e.waiters.findIdx? (fun w => w.station == me) <;> rfl

/-- The own grant number and time remaining, where the station is a holder. -/
theorem ownBytes_eq (e : ResourceEntry) (me : Station) (now : Tick) {grant remaining : Word16}
    (hgrant : grant = match e.holder? me with | none => 0 | some h => h.grant)
    (hremaining : remaining = match e.holder? me with
      | none => 0
      | some h => if 0 ≤ (now - h.deadline).toInt then 0 else BitVec.ofNat 16 (min 65535 ((h.deadline - now).toNat / 64))) :
    e.ownBytes me now = word16Bytes grant ++ word16Bytes remaining := by
  unfold ResourceEntry.ownBytes
  cases hown : e.holder? me with
  | none =>
    simp only [hown] at hgrant hremaining
    subst hgrant hremaining
    rfl
  | some h =>
    simp only [hown] at hgrant hremaining
    subst hgrant hremaining
    simp only [timeRemaining, reached_eq, decide_eq_true_eq]

/-! ## The roster view (R183, R192) -/

theorem reportedByte_eq (e : RosterEntry) :
    e.reportedByte = if e.beacon.isSome then BitVec.ofNat 8 ((e.reportedState.map (fun x => x.code)).getD 0 * 16
      + (e.reportedTimebase.map (fun x => x.code)).getD 0) else 0 := by
  have hstate : (match e.reportedState with | some st => st.code | none => 0) = (e.reportedState.map (fun x => x.code)).getD 0 := by
    cases e.reportedState <;> rfl
  have htimebase : (match e.reportedTimebase with | some t => t.code | none => 0) = (e.reportedTimebase.map (fun x => x.code)).getD 0 := by
    cases e.reportedTimebase <;> rfl
  rw [← hstate, ← htimebase, Nat.mul_comm _ 16]
  rfl

theorem heardByte_eq (s : State) (heard : Option Tick) :
    byteOf (s.heardAge heard)
      = match heard with | none => 0 | some at_ => BitVec.ofNat 8 (min 255 ((s.now - at_).toNat / (64 * s.cfg.beaconPeriod.toNat))) := by
  cases heard <;> rfl

theorem stationOf_eq {named : Byte} {p : Station} (hp : named.toNat = p.val) : stationOf named = p :=
  Fin.ext (show named.toNat % 16 = p.val by rw [hp, Nat.mod_eq_of_lt p.isLt])

/-! ## A byte names the view (R180) -/

/-- A row that takes its view at the byte after the access byte: the view of the state as it is then. -/
theorem exec_view {s : State} {t : Transaction} {row : SpiEdge → Instr} {k : AccessKind} {view : State → Byte → List Byte}
    (hrow : ∀ e, exec (row e) s = .next (s.spi e k.owns latchNothing (viewNamed view) noEffect))
    (hview : ∀ o b, view (s.setTransaction o) b = view s b)
    (ht : s.host.transaction = some t) (hst : t.standing = .taken) (hmosi : t.mosi = []) (ha : t.access = some k.code) (named : Byte) :
    exec (row (.byte named)) s = .next { s with host := { s.host with transaction := some { t with
      mosi := [named], answer := view s named, sdo := t.sdo ++ [t.answer.head?.getD 0] } } } := by
  have hnamed : (t.clocked named).mosi = [named] := by simp [Transaction.clocked, hmosi]
  rw [hrow, spi_later_byte ht hst ha (owns_code k), viewNamed, hnamed]
  simp only [hview]
  rw [clocked_eq, hmosi]
  rfl

/-- Settles O11: the byte that names an entry takes its view, whose bytes are those of R192 one by one. -/
theorem viewsHaveTheirLayouts : Obligations.ViewsHaveTheirLayouts := by
  intro s t ht hst hmosi byte hi lo answered
  refine ⟨fun named ha => ?_, fun named ha => ?_⟩
  · have hread : exec (.readLease (.byte named)) s = answered named (s.leaseView named) :=
      exec_view (k := .readLease) (fun _ => rfl) (fun _ _ => rfl) ht hst hmosi ha named
    refine ⟨fun h64 => hread.trans (congrArg (answered named) (if_pos h64)), fun r hr => ?_⟩
    intro e weights holders waiters own remaining grant
    refine hread.trans (congrArg (answered named) ?_)
    have hentry : s.replica.shown.entry named.toNat = e := by rw [hr]; exact entry_shown s.replica r
    have hlt : ¬ 63 < named.toNat := by have := r.isLt; omega
    have hown : e.ownBytes s.me s.now = word16Bytes grant ++ word16Bytes remaining := ownBytes_eq e s.me s.now rfl rfl
    have hholders : stationSet (fun p => (e.holder? p).isSome) = holders := by simp only [holder?_isSome]; rfl
    have hwaiters : stationSet (fun p => (e.waiter? p).isSome) = waiters := by simp only [waiter?_isSome]; rfl
    rw [State.leaseView, if_neg hlt, hentry, ResourceEntry.viewBytes, hown, hholders, hwaiters, headByte_eq, roleByte_eq]
    simp only [word16Bytes_eq]
    rfl
  · have hread : exec (.readRoster (.byte named)) s = answered named (s.rosterView named) :=
      exec_view (k := .readRoster) (fun _ => rfl) (fun _ _ => rfl) ht hst hmosi ha named
    refine ⟨fun h16 => hread.trans (congrArg (answered named) (if_pos h16)), fun p hp => ?_⟩
    intro e flag inc own
    have hlt : ¬ 15 < named.toNat := by have := p.isLt; omega
    have hview : s.rosterView named = named :: byteOf (s.shownPeer p).state.code :: word16Bytes ((s.shownPeer p).incarnation.getD 0)
        ++ [(s.shownPeer p).reportedByte, byteOf (s.shownPeer p).outliers, (s.shownPeer p).flagsByte (s.isOwn p),
          byteOf (s.heardAge (s.shownPeer p).lastHeard)] := by
      rw [State.rosterView, if_neg hlt, stationOf_eq hp]
    refine ⟨fun hlive => hread.trans (congrArg (answered named) ?_), fun hlive => hread.trans (congrArg (answered named) ?_)⟩
    · have hshown : s.shownPeer p = e := if_pos hlive
      rw [hview, hshown, word16Bytes_eq, reportedByte_eq, heardByte_eq]
      rfl
    · have hshown : s.shownPeer p = e.discard := if_neg (by simp [hlive])
      rw [hview, hshown, word16Bytes_eq]
      rfl

end Sys2Proof.HostTransactions
end

section
/-! PROOF. The queue of waiting commands (log 2, log 8): a step takes its front, and every command answers a next state that keeps the queue. What
the shared operations leave of it are the frame lemmas of the laws; here are the meanings of the commands, then one case for each command. -/

namespace Sys2Proof.CommandQueue

open Sys2Proof.Machine

/-- Settles O1: the step's match on the queue takes the branch of the front command. -/
theorem stepRunsTheFrontCommand : Obligations.StepRunsTheFrontCommand := by
  intro c rest s hqueue
  rw [step, hqueue]

/-- A command answers a next state, and the queue is as it was. -/
def Answers (c : Instr) (s : State) : Prop := ∃ t, exec c s = .next t ∧ t.pending = s.pending

/-- What is done under a guard keeps the queue if it does so where the guard holds. -/
theorem guarded_pending {p : Prop} [Decidable p] {s t : State} (h : t.pending = s.pending) : (if p then t else s).pending = s.pending := by
  split
  · exact h
  · rfl

/-! ## SPI transactions (R166 to R184) -/

/-- An edge keeps the queue if the row's effects of a later byte and of CS_N rising do. -/
theorem spi_pending (s : State) (e : SpiEdge) (owns : Byte → Bool) (latch : State → Transaction → Transaction)
    {byteDone closed : Transaction → State → State} (hbyte : ∀ t u, (byteDone t u).pending = u.pending)
    (hclosed : ∀ t u, (closed t u).pending = u.pending) : (s.spi e owns latch byteDone closed).pending = s.pending := by
  obtain h | ⟨-, -, h⟩ | ⟨t, ht, ⟨-, h⟩ | ⟨b, -, -, h⟩ | ⟨b, -, -, -, h⟩ | ⟨b, a, -, -, -, h⟩ | ⟨a, -, -, -, h⟩⟩ :=
    s.spi_spec e owns latch byteDone closed <;> rw [h]
  · rfl
  · rfl
  · rw [s.ignoreByte_spec t ht]
    rfl
  · rfl
  · exact hbyte _ _
  · exact hclosed _ _

theorem noEffect_pending (t : Transaction) (s : State) : (noEffect t s).pending = s.pending := rfl

theorem putClosed_pending (t : Transaction) (s : State) : (putClosed t s).pending = s.pending := guarded_pending rfl

theorem takeClocked_pending (t : Transaction) (s : State) : (takeClocked t s).pending = s.pending := guarded_pending rfl

theorem viewNamed_pending (view : State → Byte → List Byte) (t : Transaction) (s : State) : (viewNamed view t s).pending = s.pending := by
  unfold viewNamed
  split <;> rfl

theorem resetClosed_pending (t : Transaction) (s : State) : (resetClosed t s).pending = s.pending := rfl

/-! ## The Command Engine (R98, R100, R124, R38) -/

theorem leaveByQuit_pending (s : State) (tag : Byte) : (s.leaveByQuit tag).pending = s.pending := by
  simp only [State.leaveByQuit]
  split <;> simp

theorem leaveEarly_pending (s : State) (tag : Byte) : (s.leaveEarly tag).pending = s.pending := by
  simp only [State.leaveEarly]
  split <;> simp

theorem startLeave_pending (s : State) (tag : Byte) : (s.startLeave tag).pending = s.pending := by
  unfold State.startLeave
  cases s.member.state with
  | online | founding | catchup => exact leaveByQuit_pending s tag
  | joining =>
    simp only
    split
    · exact leaveByQuit_pending s tag
    · exact leaveEarly_pending s tag
  | listen => exact leaveEarly_pending s tag
  | mute => simp
  | unconfigured | offline | leaving => rfl

section
variable {s t : State} {r : CommandRecord}

theorem actCancel_pending (ht : s.actCancel r = .ok t) : t.pending = s.pending := by
  simp only [State.actCancel] at ht
  split at ht
  · cases ht
  · rename_i i _
    cases hst : (s.slot i).state with
    | sending =>
      simp only [hst] at ht
      split at ht
      · cases ht
      · split at ht <;> cases ht <;> simp
    | waiting =>
      simp only [hst] at ht
      cases ht
      rfl
    | empty | held | renewing | releasing | lapsed | withdrawing | ending =>
      simp only [hst] at ht
      cases ht

theorem acting_pending (k : CommandKind) (ht : LocalClaims.acting k r s = .ok t) : t.pending = s.pending := by
  cases k with
  | configure =>
    obtain rfl := Except.ok.inj ht
    simp [State.configure]
  | join =>
    obtain rfl := Except.ok.inj ht
    rfl
  | leave =>
    obtain rfl := Except.ok.inj ht
    exact startLeave_pending s r.tag
  | acquire | release | renew =>
    simp only [LocalClaims.acting, State.actAcquire, State.actRelease, State.actRenew] at ht
    split at ht
    · cases ht
    · split at ht <;> cases ht
      rfl
  | cancel => exact actCancel_pending ht

end

theorem serve_pending (s : State) (k : CommandKind) (r : CommandRecord) : (s.serve k r (LocalClaims.acting k)).pending = s.pending := by
  obtain ⟨-, h⟩ | ⟨-, -, h⟩ | ⟨-, -, ⟨t, ht, h⟩ | ⟨reason, -, h⟩⟩ := s.serve_spec k r (LocalClaims.acting k) <;> rw [h]
  · rfl
  · rfl
  · exact acting_pending k ht
  · rfl

/-- Around what is done in a taking only the Host Port's choices differ. -/
theorem answering_pending (s : State) {f : State → State} (hf : ∀ u : State, (f u).pending = u.pending) :
    (s.answering f).pending = s.pending :=
  hf { s with host := { s.host with later := [] } }

theorem taking_answers (k : CommandKind) (s : State) : Answers k.taking s := by
  refine ⟨_, LocalClaims.exec_taking k s, ?_⟩
  obtain ⟨-, h⟩ | ⟨r, rest, -, -, h⟩ := s.takeRecord_spec k (LocalClaims.acting k) <;> rw [h]
  exact answering_pending s fun u => serve_pending u.dropCommand k r

theorem badCommandRecord_answers (s : State) : Answers .badCommandRecord s := by
  refine ⟨_, rfl, ?_⟩
  split
  · rfl
  · split <;> rfl

/-! ## The line (R132 to R163) -/

theorem idleReport_pending (s : State) : s.idleReport.pending = s.pending := by
  obtain ⟨e, -, -, -, -, h⟩ | ⟨-, h⟩ := s.idleReport_spec <;> rw [h]
  rfl

theorem loseArbitration_pending (s : State) (levels : List Level) : (s.loseArbitration levels).pending = s.pending := by
  unfold State.loseArbitration
  split
  · rfl
  · split
    · rfl
    · split <;> simp

theorem acceptFrame_pending (s : State) (levels : List Level) : (s.acceptFrame levels).pending = s.pending := by
  unfold State.acceptFrame
  split
  · rfl
  · split
    · rfl
    · split
      · rfl
      · split
        · split
          · rfl
          · split <;> simp
        · rfl

theorem vetoFrame_pending (s : State) (levels window : List Level) : (s.vetoFrame levels window).pending = s.pending := by
  unfold State.vetoFrame
  split
  · rfl
  · split
    · split
      · simp [State.ownVetoed]
      · rfl
    · split
      · simp [State.otherVetoed]
      · rfl

theorem frameVetoed_answers (read : VetoedRead) (s : State) : Answers (.frameVetoed read) s := by
  refine ⟨_, rfl, ?_⟩
  split
  · rfl
  · exact vetoFrame_pending s _ _

theorem missOrphan_pending (s : State) (levels : List Level) : (s.missOrphan levels).pending = s.pending := by
  unfold State.missOrphan State.orphanDiscarded
  split
  · rfl
  · split <;> simp

theorem missFrame_pending (s : State) (levels : List Level) : (s.missFrame levels).pending = s.pending := by
  unfold State.missFrame
  split
  · rfl
  · split
    · split
      · exact missOrphan_pending s levels
      · rfl
    · split
      · rfl
      · split_ifs
        · simp [State.missInBody]
        · rfl
        · rfl

theorem dominantRead_pending (s : State) : s.dominantRead.pending = s.pending := by
  unfold State.dominantRead
  cases s.line.phase with
  | idle | seekingIdle | inFrame | silent => rfl

/-! ## Handing a frame inward (R158) -/

theorem deliver_pending (s : State) (k : FrameKind) : (s.deliver k).pending = s.pending := by
  obtain ⟨-, h⟩ | ⟨d, rest, -, -, h⟩ := s.deliver_spec k <;> rw [h]
  simp

/-! ## Expiries (R23, R43, R70, R82, R88, R102 to R123) -/

theorem replicaExpiry_pending (s : State) (r : Fin 64) (p : Station) : (s.replicaExpiry r p).pending = s.pending := by
  unfold State.replicaExpiry
  split
  · split
    · simp only [State.expireHolder]
      split <;> rfl
    · rfl
  · rfl

theorem presenceExpiry_pending (s : State) (p : Station) : (s.presenceExpiry p).pending = s.pending := by
  simp only [State.presenceExpiry]
  split_ifs <;> rfl

theorem fireBeacon_pending (s : State) : s.fireBeacon.pending = s.pending := by
  simp only [State.fireBeacon]
  split <;> rfl

theorem beaconSchedule_answers (s : State) : Answers .beaconSchedule s := by
  refine ⟨_, rfl, ?_⟩
  split
  · exact guarded_pending (fireBeacon_pending (s.advanceBeacon _))
  · rfl

theorem roundEnd_answers (s : State) : Answers .roundEnd s := by
  refine ⟨_, rfl, ?_⟩
  split
  · exact guarded_pending (by simp)
  · rfl

/-! ## Every command -/

/-- Settles O2: one case for each command. -/
theorem everyCommandAnswersANextState : Obligations.EveryCommandAnswersANextState := by
  intro c s
  cases c with
  | deviceReset => exact ⟨_, rfl, rfl⟩
  | fineTick => exact ⟨_, rfl, guarded_pending rfl⟩
  | putCommand e => exact ⟨_, rfl, spi_pending s e _ _ noEffect_pending putClosed_pending⟩
  | takeEvent e => exact ⟨_, rfl, spi_pending s e _ _ takeClocked_pending noEffect_pending⟩
  | readStatus e | voidAccess _ e => exact ⟨_, rfl, spi_pending s e _ _ noEffect_pending noEffect_pending⟩
  | readLease e | readRoster e => exact ⟨_, rfl, spi_pending s e _ _ (viewNamed_pending _) noEffect_pending⟩
  | portReset e => exact ⟨_, rfl, spi_pending s e _ _ noEffect_pending resetClosed_pending⟩
  | badCommandRecord => exact badCommandRecord_answers s
  | configure => exact taking_answers .configure s
  | join => exact taking_answers .join s
  | leave => exact taking_answers .leave s
  | acquire => exact taking_answers .acquire s
  | release => exact taking_answers .release s
  | renew => exact taking_answers .renew s
  | cancel => exact taking_answers .cancel s
  | frameStart => exact ⟨_, rfl, idleReport_pending s⟩
  | arbitrationLoss levels => exact ⟨_, rfl, loseArbitration_pending s levels⟩
  | frameAccepted levels => exact ⟨_, rfl, acceptFrame_pending s levels⟩
  | frameVetoed read => exact frameVetoed_answers read s
  | missedFrame levels => exact ⟨_, rfl, missFrame_pending s levels⟩
  | claimFrame | dropFrame | extendFrame | withdrawFrame | revokeFrame | quitFrame | departFrame | foundFrame | applyFrame | admitFrame
  | declineFrame | snapshotFrame | snapEndFrame | beaconFrame => exact ⟨_, rfl, deliver_pending s _⟩
  | replicaDeadline r p => exact ⟨_, rfl, replicaExpiry_pending s r p⟩
  | selfExpiry i => exact ⟨_, rfl, guarded_pending (by simp)⟩
  | presenceDeadline p => exact ⟨_, rfl, presenceExpiry_pending s p⟩
  | beaconSchedule => exact beaconSchedule_answers s
  | listenWindow | foundingPeriod | joinAttemptTimer | joinBackoff => exact ⟨_, rfl, guarded_pending (by simp)⟩
  | roundEnd => exact roundEnd_answers s
  | lineIdle => exact ⟨_, rfl, s.recessiveRead_pending⟩
  | startBitRead => exact ⟨_, rfl, dominantRead_pending s⟩

end Sys2Proof.CommandQueue
end

section
/-! PROOF. The Lease Table (spec/01, R2, R117): state and holder list of every resource agree and no station stands twice, first for what the lease
rules do to one entry and to the replica, then for the table a joiner rebuilds and loads, then for every operation on the state and every command. -/

namespace Sys2Proof.LeaseTableSound

/-! The proofs here are elaborated one after another: side by side, each costs a thread, and the threads of the whole text share one memory limit. -/

set_option Elab.async false

open Sys2Proof.Machine

/-! ## One resource entry (R2, R10 to R21) -/

/-- The stations that an entry names, holders first. -/
def named (e : ResourceEntry) : List Station := e.holders.map (fun h => h.station) ++ e.waiters.map (fun w => w.station)

/-- How many holders a state stands for (R2). -/
def StateFits (st : ResourceState) (held : List Station) : Prop :=
  match st with
  | .free => held = []
  | .exclusive => held.length = 1
  | .shared => held ≠ []

/-- What soundness asks of an entry is said by its state and the stations it names. -/
theorem sound_iff (e : ResourceEntry) : e.Sound ↔ StateFits e.state (e.holders.map (fun h => h.station)) ∧ (named e).Nodup := by
  cases hst : e.state <;> simp [ResourceEntry.Sound, StateFits, named, hst]

theorem clear_sound : ResourceEntry.clear.Sound := (sound_iff _).mpr ⟨rfl, List.nodup_nil⟩

/-- The state that a grant pass sets fits the holders that it leaves (R10). -/
theorem grantState_fits {st : ResourceState} {held : List Station} (ws : List Waiter) (h : StateFits st held) :
    StateFits (grantState st ws) (held ++ (ws.take (grantCount st ws)).map (fun w => w.station)) := by
  cases ws with
  | nil => simpa [grantState, grantCount] using h
  | cons w ws =>
    have hne (l : List Station) : held ++ w.station :: l ≠ [] := by simp
    cases st <;> cases hm : w.mode <;> simp_all [grantState, grantCount, StateFits]

theorem passEntry_sound (x : LeaseContext) (r : ResNo) {e : ResourceEntry} (h : e.Sound) : (x.passEntry r e).1.Sound := by
  obtain ⟨hfits, hnodup⟩ := (sound_iff e).mp h
  obtain ⟨hwait, -, hstate, hheld⟩ := x.grantFirst_spec r (grantCount e.state e.waiters) { e with state := grantState e.state e.waiters }
    (grantCount_le _ _)
  refine (sound_iff _).mpr ⟨?_, ?_⟩
  · simp only [LeaseContext.passEntry, hstate, hheld]
    exact grantState_fits e.waiters hfits
  · have hsame : named (x.passEntry r e).1 = named e := by
      simp only [named, LeaseContext.passEntry, hwait, hheld, List.append_assoc, ← List.map_append, List.take_append_drop]
    rwa [hsame]

theorem dropWaiter_sound (p : Station) {e : ResourceEntry} (h : e.Sound) : (e.dropWaiter p).Sound := by
  obtain ⟨hfits, hnodup⟩ := (sound_iff e).mp h
  exact (sound_iff _).mpr ⟨hfits, hnodup.sublist ((List.Sublist.refl _).append (List.filter_sublist.map _))⟩

/-- Without a holder the entry is FREE; with one it keeps a state that still fits (R15, R19, R20). -/
theorem dropHolder_sound (p : Station) {e : ResourceEntry} (h : e.Sound) : (e.dropHolder p).Sound := by
  obtain ⟨hfits, hnodup⟩ := (sound_iff e).mp h
  have hsub : (e.holders.filter (fun x => x.station != p)).Sublist e.holders := List.filter_sublist
  refine (sound_iff _).mpr ⟨?_, hnodup.sublist ((hsub.map _).append (List.Sublist.refl _))⟩
  have hlen := hsub.length_le
  simp only [ResourceEntry.dropHolder]
  generalize e.holders.filter (fun x => x.station != p) = left at hlen
  cases left with
  | nil => rfl
  | cons a left => cases hst : e.state <;> simp_all [StateFits]

theorem dropStation_sound (p : Station) {e : ResourceEntry} (h : e.Sound) : (e.dropStation p).Sound := by
  unfold ResourceEntry.dropStation
  split
  · exact dropWaiter_sound p (dropHolder_sound p h)
  · exact h

theorem holder?_eq_none_iff (e : ResourceEntry) (p : Station) : e.holder? p = none ↔ p ∉ e.holders.map (fun h => h.station) := by
  simp [ResourceEntry.holder?, List.find?_eq_none]

theorem waiter?_eq_none_iff (e : ResourceEntry) (p : Station) : e.waiter? p = none ↔ p ∉ e.waiters.map (fun w => w.station) := by
  simp [ResourceEntry.waiter?, List.find?_eq_none]

/-- A station that holds and waits nowhere in the entry can be appended to its holders, in a state that then fits (R13). -/
theorem addHolder_sound {e : ResourceEntry} {st : ResourceState} {counter : Word16} {h : Holder} (he : e.Sound)
    (hholds : e.holder? h.station = none) (hwaits : e.waiter? h.station = none)
    (hfits : StateFits st (e.holders.map (fun x => x.station) ++ [h.station])) :
    ResourceEntry.Sound { e with state := st, counter := counter, holders := e.holders ++ [h] } := by
  have hnodup := ((sound_iff e).mp he).2
  rw [holder?_eq_none_iff] at hholds
  rw [waiter?_eq_none_iff] at hwaits
  refine (sound_iff _).mpr ⟨by simpa using hfits, ?_⟩
  have hperm : (named { e with state := st, counter := counter, holders := e.holders ++ [h] }).Perm (h.station :: named e) := by
    simp [named]
  rw [hperm.nodup_iff]
  refine List.nodup_cons.mpr ⟨?_, hnodup⟩
  simp only [named, List.mem_append, not_or]
  exact ⟨hholds, hwaits⟩

/-- So can it be to its waiters (R14). -/
theorem addWaiter_sound {e : ResourceEntry} {w : Waiter} (he : e.Sound) (hholds : e.holder? w.station = none) (hwaits : e.waiter? w.station = none) :
    ResourceEntry.Sound { e with waiters := e.waiters ++ [w] } := by
  obtain ⟨hfits, hnodup⟩ := (sound_iff e).mp he
  rw [holder?_eq_none_iff] at hholds
  rw [waiter?_eq_none_iff] at hwaits
  refine (sound_iff _).mpr ⟨hfits, ?_⟩
  have hsplit : named { e with waiters := e.waiters ++ [w] } = named e ++ [w.station] := by simp [named]
  rw [hsplit, List.nodup_append]
  refine ⟨hnodup, List.nodup_singleton _, fun a ha b hb => ?_⟩
  obtain rfl := List.mem_singleton.mp hb
  rintro rfl
  simp only [named, List.mem_append] at ha
  exact ha.elim hholds hwaits

/-- A change to the fields of holders other than the station leaves an entry sound (R16, R23). -/
theorem mapHolders_sound {e : ResourceEntry} {f : Holder → Holder} {counter : Word16} (he : e.Sound) (hf : ∀ h, (f h).station = h.station) :
    ResourceEntry.Sound { e with counter := counter, holders := e.holders.map f } := by
  have hheld : (e.holders.map f).map (fun h => h.station) = e.holders.map (fun h => h.station) := by simp [hf]
  obtain ⟨hfits, hnodup⟩ := (sound_iff e).mp he
  refine (sound_iff _).mpr ⟨?_, ?_⟩
  · rwa [hheld]
  · simpa only [named, hheld] using hnodup

/-- The state after a grant at once fits (R13). -/
theorem claimedState_fits {e : ResourceEntry} {m : Mode} (p : Station) (he : e.Sound) (hg : e.grantable m = true) :
    StateFits (e.claimedState m) (e.holders.map (fun x => x.station) ++ [p]) := by
  have hfits := ((sound_iff e).mp he).1
  cases hst : e.state <;> cases m <;> simp_all [ResourceEntry.grantable, ResourceEntry.claimedState, StateFits]

/-! ## The replica (R2) -/

theorem replicaClear_sound : Replica.clear.Sound := fun r => by
  simpa [Replica.clear] using clear_sound

section
variable {rep : Replica} (h : rep.Sound)
include h

theorem entry_sound (r : Nat) : (rep.entry r).Sound := by
  unfold Replica.entry
  split
  · exact h ⟨r, ‹_›⟩
  · exact clear_sound

theorem setEntry_sound (r : Nat) {e : ResourceEntry} (he : e.Sound) : (rep.setEntry r e).Sound := by
  unfold Replica.setEntry
  split
  · intro q
    simp only [Fin.getElem_fin, Vector.getElem_set]
    split
    · exact he
    · exact h q
  · exact h

variable (x : LeaseContext) (r : ResNo) (p : Station)

theorem grantPass_sound : (x.grantPass r rep).1.Sound := setEntry_sound h r.toNat (passEntry_sound x r (entry_sound h r.toNat))

theorem removeHolder_sound : (rep.removeHolder r p).Sound := setEntry_sound h r.toNat (dropHolder_sound p (entry_sound h r.toNat))

theorem removeWaiter_sound : (rep.removeWaiter r p).Sound := setEntry_sound h r.toNat (dropWaiter_sound p (entry_sound h r.toNat))

theorem removeStation_sound : (rep.removeStation p).Sound := fun r => by
  simpa [Replica.removeStation] using dropStation_sound p (h r)

theorem setRevocation_sound (q : Nat) (v : RevocationState) : (rep.setRevocation q p v).Sound :=
  setEntry_sound h q (mapHolders_sound (counter := (rep.entry q).counter) (entry_sound h q) fun y => by split <;> rfl)

/-! ## Lease frames (R12 to R21) -/

theorem endHolding_sound (holder : Holder) (report : List Report) : (x.endHolding r holder report rep).replica.Sound :=
  grantPass_sound (removeHolder_sound h r holder.station) x r

theorem claimGranted_sound {m : Mode} (term : Word16) (hholds : (rep.entry r.toNat).holder? p = none) (hwaits : (rep.entry r.toNat).waiter? p = none)
    (hg : (rep.entry r.toNat).grantable m = true) : (x.claimGranted p r m term rep).replica.Sound := by
  have he := entry_sound h r.toNat
  refine grantPass_sound (rep := Replica.setCount _ p _) ?_ x r
  exact setEntry_sound h r.toNat (addHolder_sound (h := x.newHolder p _ term) he hholds hwaits (claimedState_fits p he hg))

theorem claimQueued_sound {m : Mode} (term : Word16) (hholds : (rep.entry r.toNat).holder? p = none)
    (hwaits : (rep.entry r.toNat).waiter? p = none) : (x.claimQueued p r m term rep).replica.Sound := by
  refine grantPass_sound (rep := { Replica.setCount _ p _ with poolFree := _ }) ?_ x r
  exact setEntry_sound h r.toNat (addWaiter_sound (w := { station := p, mode := m, term := term }) (entry_sound h r.toNat) hholds hwaits)

theorem applyClaim_sound (online noWait : Bool) (mode : BitVec 2) (term : Word16) : (x.applyClaim p online r noWait mode term rep).replica.Sound := by
  unfold LeaseContext.applyClaim
  split
  · exact h
  · split
    · exact h
    · simp only
      split
      · exact h
      · rename_i m _ _ hfree
        simp only [Bool.or_eq_true, not_or, Option.not_isSome_iff_eq_none] at hfree
        obtain ⟨⟨hholds, hwaits⟩, -⟩ := hfree
        split
        · exact claimGranted_sound h x r p term hholds hwaits ‹_›
        · split
          · exact h
          · exact claimQueued_sound h x r p term hholds hwaits

theorem applyDrop_sound (online : Bool) (grant : Word16) : (x.applyDrop p online r grant rep).replica.Sound := by
  unfold LeaseContext.applyDrop
  split
  · exact h
  · split
    · split
      · exact endHolding_sound h x r _ _
      · exact h
    · exact h

theorem applyExtend_sound (online : Bool) (grant term : Word16) : (x.applyExtend p online r grant term rep).replica.Sound := by
  unfold LeaseContext.applyExtend
  split
  · exact h
  · simp only
    split
    · split
      · refine setEntry_sound h r.toNat (mapHolders_sound (entry_sound h r.toNat) fun y => ?_)
        split
        · exact Eq.symm ‹_›
        · rfl
      · exact h
    · exact h

theorem applyWithdraw_sound (online : Bool) : (x.applyWithdraw p online r rep).replica.Sound := by
  unfold LeaseContext.applyWithdraw
  split
  · exact h
  · simp only
    split
    · exact grantPass_sound (removeWaiter_sound h r p) x r
    · exact endHolding_sound h x r _ _
    · exact h

theorem applyRevoke_sound (online own : Bool) (holder : Station) (grant : Word16) :
    (x.applyRevoke p online own r holder grant rep).replica.Sound := by
  unfold LeaseContext.applyRevoke
  split
  · exact h
  · split
    · split
      · simp only
        split
        · exact endHolding_sound h x r _ []
        · exact endHolding_sound h x r _ _
      · exact h
    · exact h

end

theorem passes_sound (x : LeaseContext) (rs : List Nat) {rep : Replica} (h : rep.Sound) : (x.passes rs rep).1.Sound := by
  induction rs generalizing rep with
  | nil => exact h
  | cons r rs ih => exact ih (grantPass_sound h x _)

theorem applyDeparture_sound (x : LeaseContext) (p : Station) {rep : Replica} (h : rep.Sound) : (x.applyDeparture p rep).replica.Sound :=
  passes_sound x _ (removeStation_sound h p)

/-! ## The table a joiner rebuilds and loads (R117, R119) -/

/-- An entry that is sound and whole is a sound resource entry once loaded (R119). -/
theorem loadEntry_sound (x : LeaseContext) {e : SnapEntry} (h : e.Sound true) : (x.loadEntry e).Sound := by
  obtain ⟨hfree, hexcl, hwhole, hnodup⟩ := h
  refine (sound_iff _).mpr ⟨?_, ?_⟩
  · cases hst : e.state with
    | free => simp [LeaseContext.loadEntry, hst, StateFits, hfree hst]
    | exclusive =>
      have hne := List.length_pos_iff.mpr (hwhole rfl (by simp [hst]))
      have hle := hexcl hst
      simp only [LeaseContext.loadEntry, hst, StateFits, List.length_map]
      omega
    | shared => simpa [LeaseContext.loadEntry, hst, StateFits] using hwhole rfl (by simp [hst])
  · simpa [named, LeaseContext.loadEntry, LeaseContext.newHolder, Function.comp_def] using hnodup

/-- An entry with the holder that its state needs is whole (R117). -/
theorem snapSound_of_complete {e : SnapEntry} {whole : Bool} (h : e.Sound whole) (hc : e.complete = true) (w : Bool) : e.Sound w := by
  obtain ⟨hfree, hexcl, -, hnodup⟩ := h
  refine ⟨hfree, hexcl, fun _ hst => ?_, hnodup⟩
  simpa [SnapEntry.complete, hst] using hc

/-- Once the last resource is complete every entry is whole (R117, R118). -/
theorem rebuilt_whole {b : Rebuild} (h : (SnapshotBuffer.rebuild b).Sound) (hc : b.lastComplete = true) (r : Fin 64) (w : Bool) :
    (b.table[r]).Sound w := by
  have hr := h r
  by_cases hl : b.last = some r
  · exact snapSound_of_complete hr (by simpa [Rebuild.lastComplete, hl] using hc) w
  · have hwhole : (b.last != some r) = true := by simpa using hl
    rw [hwhole] at hr
    obtain ⟨hfree, hexcl, hheld, hnodup⟩ := hr
    exact ⟨hfree, hexcl, fun _ => hheld rfl, hnodup⟩

theorem loadReplica_sound (x : LeaseContext) {b : Rebuild} (h : (SnapshotBuffer.rebuild b).Sound) (hc : b.lastComplete = true) (seq : Word16)
    (rep : Replica) : (x.loadReplica b seq rep).Sound := fun r => by
  simpa [LeaseContext.loadReplica] using loadEntry_sound x (rebuilt_whole h hc r true)

/-- The empty table that an ADMIT starts with (R116). -/
theorem rebuildClear_sound : (SnapshotBuffer.rebuild { table := Vector.replicate 64 SnapEntry.clear, last := none }).Sound := fun r => by
  simp [SnapEntry.Sound, SnapEntry.clear]

/-- What soundness asks of an entry that may lack its holder is that nothing in it contradicts the checks on members (R117). -/
theorem snapSound_iff (e : SnapEntry) : e.Sound false ↔ (e.state = .free → e.holders = []) ∧ JoinLeave.AllFit e [] := by
  rw [JoinLeave.allFit_nil, SnapEntry.Sound, JoinLeave.namedIn]
  tauto

theorem snapSound_of_whole {e : SnapEntry} {whole : Bool} (h : e.Sound whole) : e.Sound false := by
  obtain ⟨hfree, hexcl, -, hnodup⟩ := h
  exact ⟨hfree, hexcl, nofun, hnodup⟩

theorem add_sound {e e' : SnapEntry} {m : Member} (h : e.Sound false) (ha : e.add m = some e') : e'.Sound false := by
  obtain ⟨hfree, hfit⟩ := (snapSound_iff e).mp h
  have hm : JoinLeave.Fits e m := (JoinLeave.add_isSome_iff e m).mp (by rw [ha]; rfl)
  obtain rfl := JoinLeave.add_some ha
  refine (snapSound_iff _).mpr ⟨fun hst => ?_, JoinLeave.allFit_extended hfit hm⟩
  have hwaits : m.holder = false := Bool.eq_false_iff.mpr fun hh => (hm.2.1 hh).2.1 hst
  simpa [JoinLeave.extended, hwaits] using hfree hst

theorem addAll_sound (ms : List Member) {e e' : SnapEntry} (h : e.Sound false) (ha : e.addAll ms = some e') : e'.Sound false := by
  induction ms generalizing e with
  | nil =>
    obtain rfl := Option.some.inj ha
    exact h
  | cons m ms ih =>
    simp only [SnapEntry.addAll] at ha
    split at ha
    · cases ha
    · exact ih (add_sound h ‹_›) ha

theorem startEntry_sound {b : Rebuild} (h : (SnapshotBuffer.rebuild b).Sound) (r : Fin 64) (st : ResourceState) (counter : Word16) :
    (JoinLeave.startEntry b r st counter).Sound false := by
  refine (snapSound_iff _).mpr ⟨fun hst => ?_, JoinLeave.startEntry_fit h r st counter⟩
  unfold JoinLeave.startEntry at hst ⊢
  split at hst
  · rw [if_pos ‹_›]
    exact (h r).1 hst
  · rw [if_neg ‹_›]

/-- A part that loads leaves the entry of its resource sound and the others whole: it goes on with the last resource, or the last one is complete (R117). -/
theorem load_sound {b b' : Rebuild} {c : ConfigRecord} {ap : AdmissionPart} {p : SnapshotPart} (h : (SnapshotBuffer.rebuild b).Sound)
    (hl : b.load c ap p = some b') : (SnapshotBuffer.rebuild b').Sound := by
  obtain ⟨r, st, e, e', -, -, -, -, hbase, hadd, -, rfl⟩ := (JoinLeave.load_eq_some_iff b c ap p b').mp hl
  obtain ⟨rfl, -, -, hbefore⟩ := (JoinLeave.base_eq_some_iff b r st p.counter e).mp hbase
  intro q
  by_cases hq : q = r
  · subst hq
    simpa using addAll_sound p.members (startEntry_sound h q st p.counter) hadd
  · have hother : (b.table.set r e')[q] = b.table[q] := by
      simp only [Fin.getElem_fin]
      exact Vector.getElem_set_ne _ _ (fun hv => hq (Fin.ext hv.symm))
    have hlast : (some r != some q) = true := by simpa using Ne.symm hq
    simp only [hother, hlast]
    by_cases hl : b.last = some q
    · obtain ⟨-, hcomplete⟩ := hbefore q hl hq
      exact snapSound_of_complete (h q) (by simpa [SnapEntry.complete] using hcomplete) true
    · have hwhole : (b.last != some q) = true := by simpa using hl
      simpa only [hwhole] using h q

/-! ## Operations that leave the Lease Table and the Snapshot Buffer alone -/

@[simp] theorem queueOwn_snapshot (s : State) (k : OwnKind) : (s.queueOwn k).member.snapshot = s.member.snapshot := by
  unfold State.queueOwn; split <;> rfl

@[simp] theorem ownLeft_snapshot (s : State) : s.ownLeft.member.snapshot = s.member.snapshot := by
  unfold State.ownLeft
  split
  · rfl
  · simp only
    split <;> simp

@[simp] theorem withdrawOwn_snapshot (s : State) : s.withdrawOwn.2.member.snapshot = s.member.snapshot := by
  unfold State.withdrawOwn
  split
  · rfl
  · simp only
    split <;> rfl

@[simp] theorem askDepart_snapshot (s : State) (p : Station) : (s.askDepart p).member.snapshot = s.member.snapshot := by
  obtain ⟨-, h⟩ | ⟨-, h⟩ := s.askDepart_spec p <;> simp [h]

@[simp] theorem withdrawDepart_snapshot (s : State) (p : Station) : (s.withdrawDepart p).member.snapshot = s.member.snapshot := by
  unfold State.withdrawDepart; split <;> simp

@[simp] theorem renewPresence_snapshot (s : State) (p : Station) (t : Tick) : (s.renewPresence p t).member.snapshot = s.member.snapshot := by
  simp only [State.renewPresence]; split <;> simp

@[simp] theorem departDiscarded_snapshot (s : State) (p : Station) : (s.departDiscarded p).member.snapshot = s.member.snapshot := by
  simp only [State.departDiscarded]; split_ifs <;> simp

@[simp] theorem settleDepart_snapshot (s : State) (d : Delivered) (p : Station) : (s.settleDepart d p).member.snapshot = s.member.snapshot := by
  simp only [State.settleDepart]; split <;> simp

@[simp] theorem compareDigest_snapshot (s : State) (d : Delivered) (b : BeaconBody) (x : Bool) :
    (s.compareDigest d b x).member.snapshot = s.member.snapshot := by
  simp only [State.compareDigest]; split_ifs <;> rfl

@[simp] theorem sampleBeacon_snapshot (s : State) (d : Delivered) (b : BeaconBody) : (s.sampleBeacon d b).member.snapshot = s.member.snapshot := by
  unfold State.sampleBeacon
  simp only
  repeat' split
  all_goals simp

@[simp] theorem beaconDelivered_snapshot (s : State) (d : Delivered) : (s.beaconDelivered d).member.snapshot = s.member.snapshot := by
  unfold State.beaconDelivered; split
  · split_ifs <;> simp
  · rfl

@[simp] theorem ownDelivered_snapshot (s : State) (d : Delivered) : (s.ownDelivered d).member.snapshot = s.member.snapshot := by
  unfold State.ownDelivered; split
  · split_ifs <;> simp
  · rfl

@[simp] theorem fireBeacon_snapshot (s : State) : s.fireBeacon.member.snapshot = s.member.snapshot ∧ s.fireBeacon.replica = s.replica := by
  simp only [State.fireBeacon]; split <;> simp

/-- Whatever keeps the replica and the Snapshot Buffer keeps their soundness. -/
theorem of_same {s t : State} (h : s.TableSound) (hsame : t.replica = s.replica ∧ t.member.snapshot = s.member.snapshot) : t.TableSound := by
  unfold State.TableSound
  rw [hsame.1, hsame.2]
  exact h

/-! ## Operations that clear one of them (R121, R125, R127, R128, R106, R112) -/

theorem stationClear_sound (s : State) (ev : EventRecord) : (s.stationClear ev).TableSound := ⟨replicaClear_sound, trivial⟩

theorem leavingEnds_sound (s : State) : s.leavingEnds.TableSound := stationClear_sound s _

theorem abandonEnds_sound (s : State) : s.abandonEnds.TableSound := by
  refine of_same (stationClear_sound s (s.joinRetry detailAbandoned)) ⟨?_, ?_⟩ <;> simp [State.abandonEnds, State.enterBeaconing]

section
variable {s : State} (h : s.TableSound)
include h

theorem failAttempt_sound (reason : FailReason) : (s.failAttempt reason).TableSound := by
  refine of_same (s := { s with member := { s.member with snapshot := .empty } }) ⟨h.1, trivial⟩ ?_
  simp [State.failAttempt]

theorem closeAttempt_sound (reason : FailReason) : (s.closeAttempt reason).TableSound := by
  unfold State.closeAttempt
  split
  · exact stationClear_sound s _
  · exact h

theorem enterLeaving_sound (tag : Byte) : (s.enterLeaving tag).TableSound := by
  simp only [State.enterLeaving]
  split
  · exact ⟨h.1, trivial⟩
  · exact h

theorem enterMute_sound (detail : Byte) (threshold : Nat) : (s.enterMute detail threshold).TableSound := by
  unfold State.enterMute
  cases s.member.state with
  | leaving => exact leavingEnds_sound _
  | unconfigured | offline | mute => exact h
  | online | founding => exact h
  | listen | joining | catchup => exact ⟨h.1, trivial⟩

theorem joinGroup_sound : s.joinGroup.TableSound := of_same h (by simp [State.joinGroup, State.enterBeaconing])

theorem dropStream_sound : s.dropStream.TableSound := ⟨h.1, trivial⟩

theorem closeAdmission_sound (gone : Station) : (s.closeAdmission gone).TableSound := by
  unfold State.closeAdmission
  split
  · exact h
  · simp only
    split_ifs
    · exact h
    · exact h
    · exact dropStream_sound (s := { s with member := _ }) h
    · exact h
    · exact h

theorem openAsAdmitter_sound (a : Admission) (time : Tick) : (s.openAsAdmitter a time).TableSound := by
  simp only [State.openAsAdmitter]
  split
  · exact h
  · exact ⟨h.1, trivial⟩

theorem nextStreamFrame_sound : s.nextStreamFrame.TableSound := by
  unfold State.nextStreamFrame
  split
  · simp only
    split <;> exact ⟨h.1, trivial⟩
  · exact h
  · exact h

/-! ## Revocation and the entry to ONLINE (R23, R24, R87) -/

omit h in
theorem queueRevokes_sound (l : List (Nat × Holder)) {s : State} (h : s.TableSound) : (s.queueRevokes l).TableSound := by
  induction l generalizing s with
  | nil => exact h
  | cons a l ih =>
    obtain ⟨r, holder⟩ := a
    simp only [State.queueRevokes]
    split
    · exact ih (s := { s with tx := _, replica := _ }) ⟨setRevocation_sound h.1 _ _ _, h.2⟩
    · exact h

theorem serviceRevocations_sound : s.serviceRevocations.TableSound := by
  unfold State.serviceRevocations
  split
  · exact queueRevokes_sound _ h
  · exact h

theorem enterOnline_sound : s.enterOnline.TableSound := by
  have hpresent : (State.startPresence { s with member := { s.member with state := .online, foundingPeriod := none } }).TableSound := h
  simp only [State.enterOnline]
  exact serviceRevocations_sound hpresent

theorem replicaExpiry_sound (r : Fin 64) (p : Station) : (s.replicaExpiry r p).TableSound := by
  unfold State.replicaExpiry
  split
  · split
    · simp only [State.expireHolder]
      split <;> exact ⟨setRevocation_sound h.1 _ _ _, h.2⟩
    · exact h
  · exact h

/-! ## A frame at a live replica and roster (R7) -/

theorem takeLease_sound {out : LeaseResult} (hout : out.replica.Sound) : (s.takeLease out).TableSound :=
  of_same (s := { s with replica := out.replica }) ⟨hout, h.2⟩ (by simp [State.takeLease])

theorem finishApplication_sound (replay : Bool) : (s.finishApplication replay).TableSound := by
  have hserved := serviceRevocations_sound h
  simp only [State.finishApplication]
  split <;> exact hserved

theorem peerGone_sound (d : Delivered) (p : Station) (detail : Byte) (replay : Bool) : (s.peerGone d p detail replay).TableSound := by
  have hgone := closeAdmission_sound (s := s.setPeer p (s.peer p).depart) h p
  simp only [State.peerGone]
  split
  · exact takeLease_sound (s := State.placeAtOnce _ _) hgone (applyDeparture_sound _ p hgone.1)
  · exact takeLease_sound hgone (applyDeparture_sound _ p hgone.1)

theorem liveQuit_sound (d : Delivered) (replay : Bool) : (s.liveQuit d replay).TableSound := by
  unfold State.liveQuit State.ownQuit State.peerQuit
  split_ifs
  · exact h
  · exact leavingEnds_sound s
  · exact abandonEnds_sound s
  · exact h
  · exact of_same (peerGone_sound h d d.sender detailQuit replay) (by simp)
  · exact h

theorem liveDepart_sound (d : Delivered) (p : Station) (replay : Bool) : (s.liveDepart d p replay).TableSound := by
  unfold State.liveDepart
  split_ifs
  · exact h
  · exact of_same (peerGone_sound h d p detailDepart replay) (by simp)
  · exact of_same (t := s.countStale.settleDepart d p) (s := s.countStale) h (by simp)

theorem liveApply_sound (d : Delivered) (incarnation profile : Word16) : (s.liveApply d incarnation profile).TableSound := by
  have hheard (u : State) (hu : u.TableSound) : (u.renewPresence d.sender d.stamp).TableSound := of_same hu (by simp)
  unfold State.liveApply
  split
  · exact h
  · split
    · split <;> exact h
    · simp only
      split
      · refine openAsAdmitter_sound (hheard _ ?_) _ _
        exact h
      · refine hheard _ ?_
        exact h

theorem streamed_sound (d : Delivered) : (s.streamed d).TableSound := by
  have hheard : (s.renewPresence d.sender d.stamp).TableSound := of_same h (by simp)
  simp only [State.streamed]
  split
  · exact nextStreamFrame_sound hheard
  · exact hheard

theorem liveSnapEnd_sound (d : Delivered) (joiner : Station) : (s.liveSnapEnd d joiner).TableSound := by
  unfold State.liveSnapEnd
  split
  · extract_lets t m closed
    have ht : t.TableSound := of_same h (by simp [t])
    have hclosed : closed.TableSound := by
      refine ⟨ht.1, ?_⟩
      simp only [closed]
      split
      · trivial
      · exact ht.2
    split <;> exact hclosed
  · exact h

theorem abandon_sound : s.abandon.TableSound := by
  have hquit (u : State) (hu : u.TableSound) : (u.queueOwn .quit).TableSound := of_same hu (by simp)
  let t : State := { s with member := { s.member with foundingPeriod := none, abandoning := true } }
  have ht : t.TableSound := h
  simp only [State.abandon]
  split
  · split
    · exact hquit _ (dropStream_sound ht)
    · exact hquit _ ht
  · exact hquit _ ht

theorem liveBeacon_sound (d : Delivered) (b : BeaconBody) (replay : Bool) : (s.liveBeacon d b replay).TableSound := by
  unfold State.liveBeacon State.unknownBeacon
  split_ifs
  · exact h
  · exact of_same h (by simp [State.recordBeacon])
  · exact abandon_sound h
  · exact h

theorem liveEffects_sound (d : Delivered) (replay : Bool) : (s.liveEffects d replay).TableSound := by
  unfold State.liveEffects
  cases d.frame with
  | claim r noWait mode term => exact takeLease_sound h (applyClaim_sound h.1 _ r _ _ noWait mode term)
  | drop r grant => exact takeLease_sound h (applyDrop_sound h.1 _ r _ _ grant)
  | extend r grant term => exact takeLease_sound h (applyExtend_sound h.1 _ r _ _ grant term)
  | withdraw r => exact takeLease_sound h (applyWithdraw_sound h.1 _ r _ _)
  | revoke r holder grant => exact takeLease_sound h (applyRevoke_sound h.1 _ r _ _ _ holder grant)
  | quit => exact liveQuit_sound h d replay
  | depart p => exact liveDepart_sound h d p replay
  | found => exact h
  | apply i p => exact liveApply_sound h d i p
  | admitJoiner | snapshot =>
    simp only [State.liveAdmit, State.liveSnapshot]
    split
    · exact streamed_sound h d
    · exact h
  | decline => exact of_same h (by simp [State.liveDecline])
  | snapEnd j => exact liveSnapEnd_sound h d j
  | beacon b => exact liveBeacon_sound h d b replay

theorem applyLive_sound (d : Delivered) (replay : Bool) : (s.applyLive d replay).TableSound :=
  finishApplication_sound (liveEffects_sound h d replay) replay

omit h in
theorem replay_sound (ds : List Delivered) {s : State} (h : s.TableSound) : (s.replay ds).TableSound := by
  induction ds generalizing s with
  | nil => exact h
  | cons d ds ih => exact ih (applyLive_sound h d true)

/-! ## A frame handed inward (R158, R159, R101 to R127) -/

theorem listenFrame_sound (d : Delivered) : (s.listenFrame d).TableSound := by
  unfold State.listenFrame State.listenFound State.listenBeacon
  cases d.frame with
  | beacon b =>
    simp only
    split
    · exact joinGroup_sound h
    · exact h
  | found i p =>
    simp only
    split_ifs
    · exact ⟨replicaClear_sound, h.2⟩
    · exact joinGroup_sound h
    · exact h
  | apply | quit | depart | admitJoiner | decline | snapshot | snapEnd | revoke | claim | drop | extend | withdraw => exact h

theorem joinerDeclined_sound (reason : Byte) : (s.joinerDeclined reason).TableSound := by
  unfold State.joinerDeclined
  split_ifs
  · exact h
  · exact stationClear_sound s _
  · exact stationClear_sound s _
  · exact h

/-- An ADMIT starts the rebuilding with an empty table (R116). -/
theorem joinerAdmitted_sound (a : Attempt) (d : Delivered) (capture : Word16) (parts : Byte) (states : BitVec 32) :
    (s.joinerAdmitted a d capture parts states).TableSound := by
  unfold State.joinerAdmitted
  split_ifs
  · exact failAttempt_sound h _
  · exact failAttempt_sound h _
  · refine of_same ?_ ⟨State.renewPresence_frame _ _ _ |>.2.2.1, renewPresence_snapshot _ _ _⟩
    exact ⟨h.1, rebuildClear_sound⟩

theorem joinerSnapshot_sound (a : Attempt) (ap : AdmissionPart) (p : SnapshotPart) : (s.joinerSnapshot a ap p).TableSound := by
  unfold State.joinerSnapshot
  split
  · rename_i b hb
    split
    · exact failAttempt_sound h _
    · have hrebuild := h.2
      rw [hb] at hrebuild
      exact ⟨h.1, load_sound hrebuild ‹_›⟩
  · exact failAttempt_sound h _
  · exact failAttempt_sound h _

/-- The table is loaded once its last resource is complete, so that the replica is sound from then on (R118, R119). -/
theorem completeJoin_sound (a : Attempt) (ap : AdmissionPart) {b : Rebuild} (hb : (SnapshotBuffer.rebuild b).Sound) (hc : b.lastComplete = true)
    (stamp : Tick) : (s.completeJoin a ap b stamp).TableSound := by
  have hreplayed : (State.replay { s with replica := (s.leaseContext a.stamp).loadReplica b (ap.capture + a.accepted + 1) s.replica }
      a.catchup).TableSound := replay_sound _ ⟨loadReplica_sound _ hb hc _ _, h.2⟩
  have hheard := of_same hreplayed ⟨State.renewPresence_frame _ ap.admitter stamp |>.2.2.1, renewPresence_snapshot _ _ _⟩
  simp only [State.completeJoin]
  refine enterOnline_sound ?_
  exact ⟨hheard.1, trivial⟩

theorem joinerSnapEnd_sound (a : Attempt) (ap : AdmissionPart) (digest : Word16) (stamp : Tick) :
    (s.joinerSnapEnd a ap digest stamp).TableSound := by
  unfold State.joinerSnapEnd
  split
  · rename_i b hb
    split
    · rename_i hpasses
      have hrebuild := h.2
      rw [hb] at hrebuild
      simp only [Rebuild.passes, Bool.and_eq_true] at hpasses
      exact completeJoin_sound h a ap hrebuild hpasses.1.2 stamp
    · exact failAttempt_sound h _
  · exact failAttempt_sound h _
  · exact failAttempt_sound h _

theorem storeFrame_sound (a : Attempt) (d : Delivered) : (s.storeFrame a d).TableSound := by
  unfold State.storeFrame
  split
  · exact failAttempt_sound h _
  · exact h

theorem attemptFrame_sound (a : Attempt) (d : Delivered) : (s.attemptFrame a d).TableSound := by
  unfold State.attemptFrame
  cases d.frame with
  | beacon => exact h
  | admitJoiner =>
    simp only
    split
    · exact joinerAdmitted_sound h a d _ _ _
    · exact h
  | decline b =>
    simp only
    split
    · exact joinerDeclined_sound h b.reason
    · exact h
  | snapshot j p =>
    cases a.admission with
    | none => exact h
    | some ap =>
      simp only
      split
      · exact joinerSnapshot_sound h a ap p
      · exact h
  | snapEnd j digest =>
    cases a.admission with
    | none => exact h
    | some ap =>
      simp only
      split
      · exact joinerSnapEnd_sound h a ap digest d.stamp
      · exact h
  | quit | depart =>
    simp only
    split
    · exact failAttempt_sound h _
    · exact storeFrame_sound h a d
  | found | apply | revoke | claim | drop | extend | withdraw => exact storeFrame_sound h a d

theorem joinerFrame_sound (d : Delivered) : (s.joinerFrame d).TableSound := by
  have htaken (a : Attempt) : ((s.setAttempt a).attemptFrame a d).TableSound := attemptFrame_sound (s := s.setAttempt a) h a d
  unfold State.joinerFrame
  split
  · split
    · split <;> exact h
    · exact h
  · split
    · split
      · exact closeAttempt_sound h _
      · exact h
    · exact htaken _
    · exact htaken _

theorem leavingFrame_sound (d : Delivered) : (s.leavingFrame d).TableSound := by
  have hquit (u : State) (hu : u.TableSound) : (u.queueOwn .quit).TableSound := of_same hu (by simp)
  unfold State.leavingFrame
  split
  · exact h
  · cases d.frame with
    | quit => exact leavingEnds_sound s
    | found => exact hquit s h
    | apply =>
      refine hquit _ ?_
      exact h
    | depart | beacon | admitJoiner | decline | snapshot | snapEnd | revoke | claim | drop | extend | withdraw => exact h

theorem routeFrame_sound (d : Delivered) : (s.routeFrame d).TableSound := by
  unfold State.routeFrame
  cases s.member.state with
  | unconfigured | offline => exact h
  | listen => exact listenFrame_sound h d
  | joining | catchup => exact joinerFrame_sound h d
  | founding | online => exact applyLive_sound h d false
  | mute =>
    simp only
    split
    · exact applyLive_sound h d false
    · exact h
  | leaving =>
    simp only
    split
    · exact applyLive_sound h d false
    · exact leavingFrame_sound h d

theorem receive_sound (d : Delivered) : (s.receive d).TableSound := by
  unfold State.receive
  extract_lets taken noted cleared t
  have htaken : taken.TableSound := by
    simp only [taken]
    split <;> exact h
  have ht : t.TableSound := of_same htaken (by simp [t])
  split
  · split
    · exact routeFrame_sound (s := cleared) htaken d
    · exact htaken
  · split
    · exact stationClear_sound t _
    · exact routeFrame_sound ht d

theorem deliver_sound (k : FrameKind) : (s.deliver k).TableSound := by
  obtain ⟨-, hd⟩ | ⟨d, rest, -, -, hd⟩ := s.deliver_spec k <;> rw [hd]
  · exact h
  · exact receive_sound (s := s.dropDelivery) h d

/-! ## The Command Engine (R98, R100, R124, R38) -/

theorem leaveByQuit_sound (tag : Byte) : (s.leaveByQuit tag).TableSound := by
  have hleaving := enterLeaving_sound h tag
  simp only [State.leaveByQuit]
  split
  · exact hleaving
  · exact of_same hleaving (by simp)

theorem leaveEarly_sound (tag : Byte) : (s.leaveEarly tag).TableSound := by
  have hasked : s.withdrawOwn.2.TableSound := of_same h (by simp)
  simp only [State.leaveEarly]
  split
  · exact enterLeaving_sound hasked tag
  · exact stationClear_sound _ _

theorem startLeave_sound (tag : Byte) : (s.startLeave tag).TableSound := by
  unfold State.startLeave
  cases s.member.state with
  | online | founding | catchup => exact leaveByQuit_sound h tag
  | joining =>
    simp only
    split
    · exact leaveByQuit_sound h tag
    · exact leaveEarly_sound h tag
  | listen => exact leaveEarly_sound h tag
  | mute => exact stationClear_sound s _
  | unconfigured | offline | leaving => exact h

section
variable {t : State} {r : CommandRecord}

omit h in
theorem actCancel_same (ht : s.actCancel r = .ok t) : t.replica = s.replica ∧ t.member.snapshot = s.member.snapshot := by
  simp only [State.actCancel] at ht
  split at ht
  · cases ht
  · rename_i i _
    cases hst : (s.slot i).state with
    | sending =>
      simp only [hst] at ht
      split at ht
      · cases ht
      · split at ht <;> cases ht <;> simp
    | waiting =>
      simp only [hst] at ht
      cases ht
      exact ⟨rfl, rfl⟩
    | empty | held | renewing | releasing | lapsed | withdrawing | ending =>
      simp only [hst] at ht
      cases ht

theorem acting_sound (k : CommandKind) (ht : LocalClaims.acting k r s = .ok t) : t.TableSound := by
  cases k with
  | configure =>
    obtain rfl := Except.ok.inj ht
    exact of_same h (by simp [State.configure])
  | join =>
    obtain rfl := Except.ok.inj ht
    exact h
  | leave =>
    obtain rfl := Except.ok.inj ht
    exact startLeave_sound h r.tag
  | acquire | release | renew =>
    simp only [LocalClaims.acting, State.actAcquire, State.actRelease, State.actRenew] at ht
    split at ht
    · cases ht
    · split at ht <;> cases ht
      exact h
  | cancel => exact of_same h (actCancel_same ht)

end

theorem serve_sound (k : CommandKind) (r : CommandRecord) : (s.serve k r (LocalClaims.acting k)).TableSound := by
  obtain ⟨-, hs⟩ | ⟨-, -, hs⟩ | ⟨-, -, ⟨t, ht, hs⟩ | ⟨reason, -, hs⟩⟩ := s.serve_spec k r (LocalClaims.acting k) <;> rw [hs]
  · exact h
  · exact h
  · exact acting_sound h k ht
  · exact h

theorem exec_taking_sound {t : State} (k : CommandKind) (ht : exec k.taking s = .next t) : t.TableSound := by
  rw [LocalClaims.exec_taking] at ht
  obtain rfl := Host.Outcome.next.inj ht
  obtain ⟨-, htake⟩ | ⟨r, rest, -, -, htake⟩ := s.takeRecord_spec k (LocalClaims.acting k) <;> rw [htake]
  · exact h
  · exact serve_sound (s := State.dropCommand { s with host := { s.host with later := [] } }) h k r

theorem badCommandRecord_sound {t : State} (ht : exec .badCommandRecord s = .next t) : t.TableSound := by
  obtain rfl := Host.Outcome.next.inj ht
  split
  · exact h
  · split <;> exact h

/-! ## Expiries and the line (R82, R88, R102 to R123, R133 to R162) -/

theorem presenceExpiry_sound (p : Station) : (s.presenceExpiry p).TableSound := by
  simp only [State.presenceExpiry]
  split_ifs <;> exact h

theorem frameDiscarded_sound (id : FrameId) : (s.frameDiscarded id).TableSound := by
  have hown (k : OwnKind) : (s.ownDiscarded k).TableSound := by
    unfold State.ownDiscarded
    split
    · exact leavingEnds_sound s
    · exact of_same h (by simp)
  cases id with
  | claim r | drop r | extend r | withdraw r => exact of_same h (by simp [State.frameDiscarded])
  | revoke => exact serviceRevocations_sound h
  | depart p => exact of_same h (by simp [State.frameDiscarded])
  | found | apply | quit => exact hown _
  | beacon | stream | decline => exact h

theorem orphanDiscarded_sound (id : FrameId) : (s.orphanDiscarded id).TableSound := by
  unfold State.orphanDiscarded; split <;> exact h

theorem attemptLost_sound : s.attemptLost.TableSound := by
  have hlost : State.TableSound { s with tx := s.tx.lose.2 } := h
  simp only [State.attemptLost]
  split
  · exact hlost
  · exact hlost
  · exact frameDiscarded_sound hlost _
  · exact orphanDiscarded_sound hlost _

theorem settleRate_sound : s.settleRate.TableSound := of_same h (by simp)

theorem idleReport_sound : s.idleReport.TableSound := by
  obtain ⟨e, -, -, -, -, hi⟩ | ⟨-, hi⟩ := s.idleReport_spec <;> rw [hi] <;> exact h

theorem loseArbitration_sound (levels : List Level) : (s.loseArbitration levels).TableSound := by
  unfold State.loseArbitration
  split
  · exact h
  · split
    · exact h
    · split
      · exact settleRate_sound (attemptLost_sound (s := { s with line := _ }) h)
      · exact h

theorem acceptFrame_sound (levels : List Level) : (s.acceptFrame levels).TableSound := by
  unfold State.acceptFrame
  repeat' split
  any_goals exact h
  exact settleRate_sound (serviceRevocations_sound (s := { s with line := _, tx := _ }) h)

theorem muteOnOwn_sound (counted : Bool) : (s.muteOnOwn counted).TableSound := by
  unfold State.muteOnOwn
  split
  · exact enterMute_sound h _ _
  · exact h

theorem muteOnIssued_sound (counted : Bool) : (s.muteOnIssued counted).TableSound := by
  unfold State.muteOnIssued
  split
  · exact enterMute_sound h _ _
  · exact h

theorem ownVetoed_sound (levels : List Level) (misread : Bool) : (s.ownVetoed levels misread).TableSound := by
  have hcounted (l : LineController) (counts : Bool) : (State.countOwnVeto { s with line := l } counts).TableSound := of_same h (by simp)
  exact settleRate_sound (muteOnOwn_sound (attemptLost_sound (hcounted _ _)) _)

/-- The issued-veto count touches no table; muting may discard the one being rebuilt (R161, R162). -/
theorem issuedVetoes_sound (l : LineController) (counts : Bool) :
    ((State.countIssuedVeto { s with line := l } counts).muteOnIssued counts).TableSound :=
  muteOnIssued_sound (of_same h (by simp)) _

theorem vetoFrame_sound (levels window : List Level) : (s.vetoFrame levels window).TableSound := by
  unfold State.vetoFrame
  split
  · exact h
  · split
    · split
      · exact ownVetoed_sound h _ _
      · exact h
    · split
      · exact issuedVetoes_sound h _ _
      · exact h

theorem missOrphan_sound (levels : List Level) : (s.missOrphan levels).TableSound := by
  unfold State.missOrphan
  split
  · exact h
  · refine settleRate_sound (orphanDiscarded_sound ?_ _)
    exact h

theorem missFrame_sound (levels : List Level) : (s.missFrame levels).TableSound := by
  unfold State.missFrame
  split
  · exact h
  · split
    · split
      · exact missOrphan_sound h levels
      · exact h
    · split
      · exact h
      · split_ifs
        · exact issuedVetoes_sound h _ _
        · exact h
        · exact h

theorem dominantRead_sound : s.dominantRead.TableSound := by
  unfold State.dominantRead
  cases s.line.phase <;> exact h

end

/-! ## SPI transactions (R166 to R184): the Host Port alone -/

/-- What a byte or the close of a transaction does concerns neither the Lease Table nor the Snapshot Buffer. -/
def Untouched (f : Transaction → State → State) : Prop :=
  ∀ t s, (f t s).replica = s.replica ∧ (f t s).member.snapshot = s.member.snapshot

theorem noEffect_untouched : Untouched noEffect := fun _ _ => ⟨rfl, rfl⟩

theorem putClosed_untouched : Untouched putClosed := fun t s => by unfold putClosed; split <;> exact ⟨rfl, rfl⟩

theorem takeClocked_untouched : Untouched takeClocked := fun t s => by unfold takeClocked; split <;> exact ⟨rfl, rfl⟩

theorem viewNamed_untouched (view : State → Byte → List Byte) : Untouched (viewNamed view) := fun t s => by
  unfold viewNamed; split <;> exact ⟨rfl, rfl⟩

theorem resetClosed_untouched : Untouched resetClosed := fun _ _ => ⟨rfl, rfl⟩

theorem spi_sound {s : State} (h : s.TableSound) (e : SpiEdge) (owns : Byte → Bool) (latch : State → Transaction → Transaction)
    {byteDone closed : Transaction → State → State} (hbyte : Untouched byteDone) (hclosed : Untouched closed) :
    (s.spi e owns latch byteDone closed).TableSound := by
  obtain hs | ⟨-, -, hs⟩ | ⟨t, ht, ⟨-, hs⟩ | ⟨b, -, -, hs⟩ | ⟨b, -, -, -, hs⟩ | ⟨b, a, -, -, -, hs⟩ | ⟨a, -, -, -, hs⟩⟩ :=
    s.spi_spec e owns latch byteDone closed <;> rw [hs]
  · exact h
  · exact h
  · exact h
  · rw [s.ignoreByte_spec t ht]
    exact h
  · exact h
  · exact of_same (s := s.setTransaction _) h (hbyte _ _)
  · exact of_same (s := s.setTransaction none) h (hclosed _ _)

/-! ## Every command -/

theorem resetState_sound (host : HostPort) (pending : List Instr) : State.TableSound { State.reset with host := host, pending := pending } :=
  ⟨replicaClear_sound, trivial⟩

theorem exec_sound (c : Instr) {s t : State} (h : s.TableSound) (ht : exec c s = .next t) : t.TableSound := by
  cases c with
  | badCommandRecord => exact badCommandRecord_sound h ht
  | configure => exact exec_taking_sound h .configure ht
  | join => exact exec_taking_sound h .join ht
  | leave => exact exec_taking_sound h .leave ht
  | acquire => exact exec_taking_sound h .acquire ht
  | release => exact exec_taking_sound h .release ht
  | renew => exact exec_taking_sound h .renew ht
  | cancel => exact exec_taking_sound h .cancel ht
  | deviceReset =>
    obtain rfl := Host.Outcome.next.inj ht
    exact resetState_sound _ _
  | fineTick =>
    obtain rfl := Host.Outcome.next.inj ht
    split <;> exact h
  | putCommand e =>
    obtain rfl := Host.Outcome.next.inj ht
    exact spi_sound h e _ _ noEffect_untouched putClosed_untouched
  | takeEvent e =>
    obtain rfl := Host.Outcome.next.inj ht
    exact spi_sound h e _ _ takeClocked_untouched noEffect_untouched
  | readStatus e | voidAccess _ e =>
    obtain rfl := Host.Outcome.next.inj ht
    exact spi_sound h e _ _ noEffect_untouched noEffect_untouched
  | readLease e | readRoster e =>
    obtain rfl := Host.Outcome.next.inj ht
    exact spi_sound h e _ _ (viewNamed_untouched _) noEffect_untouched
  | portReset e =>
    obtain rfl := Host.Outcome.next.inj ht
    exact spi_sound h e _ _ noEffect_untouched resetClosed_untouched
  | frameStart =>
    obtain rfl := Host.Outcome.next.inj ht
    exact idleReport_sound h
  | arbitrationLoss levels =>
    obtain rfl := Host.Outcome.next.inj ht
    exact loseArbitration_sound h levels
  | frameAccepted levels =>
    obtain rfl := Host.Outcome.next.inj ht
    exact acceptFrame_sound h levels
  | frameVetoed read =>
    obtain rfl := Host.Outcome.next.inj ht
    split
    · exact h
    · exact vetoFrame_sound h _ _
  | missedFrame levels =>
    obtain rfl := Host.Outcome.next.inj ht
    exact missFrame_sound h levels
  | claimFrame | dropFrame | extendFrame | withdrawFrame | revokeFrame | quitFrame | departFrame | foundFrame | applyFrame | admitFrame
  | declineFrame | snapshotFrame | snapEndFrame | beaconFrame =>
    obtain rfl := Host.Outcome.next.inj ht
    exact deliver_sound h _
  | replicaDeadline r p =>
    obtain rfl := Host.Outcome.next.inj ht
    exact replicaExpiry_sound h r p
  | selfExpiry i =>
    obtain rfl := Host.Outcome.next.inj ht
    split
    · exact of_same h (by simp)
    · exact h
  | presenceDeadline p =>
    obtain rfl := Host.Outcome.next.inj ht
    exact presenceExpiry_sound h p
  | beaconSchedule =>
    obtain rfl := Host.Outcome.next.inj ht
    split
    · split
      · exact of_same h (by simp)
      · exact h
    · exact h
  | listenWindow =>
    obtain rfl := Host.Outcome.next.inj ht
    split
    · exact of_same h (by simp)
    · exact h
  | foundingPeriod =>
    obtain rfl := Host.Outcome.next.inj ht
    split
    · exact enterOnline_sound h
    · exact h
  | joinAttemptTimer =>
    obtain rfl := Host.Outcome.next.inj ht
    split
    · exact failAttempt_sound h _
    · exact h
  | joinBackoff =>
    obtain rfl := Host.Outcome.next.inj ht
    split
    · exact of_same h (by simp [State.drawIncarnation])
    · exact h
  | roundEnd =>
    obtain rfl := Host.Outcome.next.inj ht
    split
    · split
      · exact of_same h (by simp)
      · exact h
    · exact h
  | lineIdle =>
    obtain rfl := Host.Outcome.next.inj ht
    exact h
  | startBitRead =>
    obtain rfl := Host.Outcome.next.inj ht
    exact dominantRead_sound h

/-- Settles O34: every command keeps the table and the one being rebuilt. -/
theorem leaseTableStaysSound : Obligations.LeaseTableStaysSound := fun c _ _ hs ht => exec_sound c hs ht

/-! ## The state after a device reset (R32, R186) -/

/-- Settles O4: every queue and the tables are empty, and the Timebase and the veto counts stand at their start. -/
theorem resetStateIsSound : Obligations.ResetStateIsSound := by
  refine ⟨?_, ?_, ?_, ?_, replicaClear_sound, trivial⟩
  · simp [State.reset, HostPort.reset, HostPort.Sound]
  · simp [State.reset, Timebase.reset, Timebase.Sound, Config.tickCycles]
  · exact (TransmitQ.sound_iff TransmitQueue.reset).mpr
      ⟨⟨Nat.zero_le _, fun _ => Nat.zero_le _, List.nodup_nil, fun e he => absurd he List.not_mem_nil⟩, List.nodup_nil⟩
  · simp [State.reset, LineController.reset, State.VetoSound]

end Sys2Proof.LeaseTableSound
end

section
/-! PROOF. Where the group's state is empty, and how it begins again (spec/01 to spec/05): the values of a device reset and of a station clear, and a
listener that founds a group or joins the one it hears. -/

namespace Sys2Proof.GroupState

/-! The proofs here are elaborated one after another: side by side, each costs a thread, and the threads of the whole text share one memory limit. -/

set_option Elab.async false

open Sys2Proof.Machine

/-! ## Device reset (R32, R34, R59, R75, R79, R97, R144, R165, R186) -/

/-- Settles O3: both edges leave `State.reset`, but for the queue, the pins and what the Host Port keeps of a transaction. -/
theorem deviceResetLeavesTheStatedValues : Obligations.DeviceResetLeavesTheStatedValues := by
  intro s
  refine ⟨_, rfl, rfl, rfl, ⟨rfl, rfl, rfl, rfl, rfl, rfl, rfl⟩, fun hnone => ?_, fun tr htr => ?_, ⟨rfl, rfl, rfl, rfl, rfl, rfl, rfl, rfl, rfl⟩,
    ⟨rfl, rfl, rfl⟩, ⟨rfl, fun r => ?_, rfl, fun p => ?_, rfl, rfl⟩, fun i => ?_, ?_, ⟨rfl, rfl, rfl, rfl, rfl, rfl, rfl, rfl⟩⟩
  · simp [HostPort.resetEdge, hnone]
  · simp [HostPort.resetEdge, htr, Transaction.cut]
  · simp [State.reset, Replica.clear, ResourceEntry.clear]
  · simp [State.reset, Replica.clear]
  · simp [State.reset, Slot.clear]
  · simp [State.reset, Membership.reset]

/-! ## Station clear (R128) -/

/-- Settles O21: the parts of a station clear one by one. -/
theorem stationClearEmptiesTheGroupState : Obligations.StationClearEmptiesTheGroupState := by
  intro s ev
  rw [RosterPresence.stationClear_eq]
  exact ⟨rfl, rfl, fun i => by simp, rfl, rfl, rfl, rfl, rfl, rfl, rfl, rfl⟩

/-! ## The oldest frame taken from the delivery order (R158) -/

/-- The state once the oldest frame has left the delivery order. -/
def handed (s : State) (rest : List Delivered) : State := { s with line := { s.line with delivery := rest } }

theorem exec_oldest {s : State} {d : Delivered} {rest : List Delivered} (hd : s.line.delivery = d :: rest) :
    exec d.frame.kind.handing s = .next ((handed s rest).receive d) := RosterPresence.exec_oldest hd

/-! ## LISTEN (R101, R103, R104) -/

theorem routeFrame_listen {s : State} (d : Delivered) (h : s.member.state = .listen) : s.routeFrame d = s.listenFrame d := by
  simp only [State.routeFrame, h]

/-- A listener with no own frame out that hears a group: JOINING, its schedule started, an APPLY queued (R82, R101, R103). -/
theorem joinGroup_eq {s : State} (hst : s.member.state = .listen) (hown : s.member.own = none) :
    s.joinGroup = { s with
      tx := (s.tx.insert (.apply (s.member.incarnation.getD 0) s.cfg.profile)).2
      member := { s.member with
        state := .joining, listenWindow := none, beaconDeadline := some (s.now + BitVec.ofNat 32 (64 * s.cfg.beaconPeriod.toNat))
        own := some { kind := .apply, withdrawn := false, next := none } } } := by
  rw [← RosterPresence.beaconPeriods_one]
  simp only [State.joinGroup, State.enterBeaconing, hst, StationState.beacons, State.withdrawOwn, hown, State.queueOwn]
  rfl

/-- A listener that applies its own FOUND: a replica that is live and empty, a roster with its own entry alone (R1, R28, R104). -/
theorem becomeFounder_eq {s : State} (stamp : Tick) (hst : s.member.state = .listen) :
    s.becomeFounder stamp = { s with
      replica := { Replica.clear with live := true }
      member := { s.member with
        state := .founding, listenWindow := none, rosterLive := true, admission := none
        beaconDeadline := some (s.now + BitVec.ofNat 32 (64 * s.cfg.beaconPeriod.toNat))
        foundingPeriod := some (stamp + BitVec.ofNat 32 (64 * (s.cfg.misses.toNat * s.cfg.beaconPeriod.toNat)))
        roster := (s.member.roster.map (fun e => { RosterEntry.clear with incarnation := e.incarnation })).set s.me
          { RosterEntry.clear with state := .online, incarnation := s.member.incarnation } } } := by
  rw [← RosterPresence.beaconPeriods_one]
  simp only [State.becomeFounder, State.enterBeaconing, hst, StationState.beacons]
  rfl

/-- The own FOUND, handed inward, leaves the Transmit Queue and goes to the station's state (R97, R134). -/
theorem receive_ownFound {s : State} {d : Delivered} {inc profile : Word16} (hf : d.frame = .found inc profile) (ho : d.own = true)
    (hnote : s.member.orphanNote = none) (hown : s.member.own = some { kind := .found, withdrawn := false, next := none }) :
    s.receive d
      = { s with tx := { s.tx with awaiting := s.tx.awaiting.erase .found }, member := { s.member with own := none } }.routeFrame d := by
  simp [State.receive, ho, hf, State.endsNote, hnote, State.beaconDelivered, State.ownDelivered, Frame.id, OwnKind.ofId, hown, State.ownLeft,
    State.evictedBy, TransmitQueue.delivered]

/-- A frame of another station that comes to a listener is read there (R101, R103). -/
theorem exec_listener {s : State} {d : Delivered} {rest : List Delivered} (hd : s.line.delivery = d :: rest) (ho : d.own = false)
    (hst : s.member.state = .listen) (hdep : d.frame ≠ .depart s.me) :
    exec d.frame.kind.handing s = .next ((handed s rest).listenFrame d) := by
  rw [RosterPresence.exec_foreign hd ho hdep]
  exact congrArg Host.Outcome.next (routeFrame_listen (s := handed s rest) d hst)

/-- Another station's FOUND is followed where it carries this station's profile digest (R103). -/
theorem listenFrame_found {s : State} {d : Delivered} {inc profile : Word16} (hf : d.frame = .found inc profile) (ho : d.own = false) :
    s.listenFrame d = if profile = s.cfg.profile then s.joinGroup else s := by
  simp [State.listenFrame, hf, State.listenFound, ho]

/-- Settles O45: the own FOUND founds; another station's, or a BEACON, of this group leads to JOINING; any other is not read. -/
theorem listenerFoundsOrJoins : Obligations.ListenerFoundsOrJoins := by
  constructor
  · intro s rest d inc profile hd hf hst hnote period
    have hforeign (ho : d.own = false) : exec .foundFrame s = .next ((handed s rest).listenFrame d) := by
      have hexec := exec_listener hd ho hst (by simp [hf])
      rwa [hf] at hexec
    refine ⟨fun ho hown => ?_, fun ho hown hprofile => ?_, fun ho hprofile => ?_⟩
    · have hexec := exec_oldest hd
      rw [hf] at hexec
      refine hexec.trans (congrArg Host.Outcome.next ((receive_ownFound (s := handed s rest) hf ho hnote hown).trans ?_))
      refine (routeFrame_listen d (by exact hst)).trans ?_
      simp only [State.listenFrame, hf, State.listenFound, ho, if_true]
      exact becomeFounder_eq d.stamp (by exact hst)
    · rw [hforeign ho, listenFrame_found hf ho]
      exact congrArg Host.Outcome.next ((if_pos hprofile).trans (joinGroup_eq (s := handed s rest) hst hown))
    · rw [hforeign ho, listenFrame_found hf ho]
      exact congrArg Host.Outcome.next (if_neg hprofile)
  · intro s rest p b stamp hd hst shows
    have hread : ((b.stationState == 3 || b.stationState == 6) && b.profile == s.cfg.profile) = true ↔ shows := by
      simp [shows, or_comm]
    refine ⟨fun hshows hown => ?_, fun hshows => ?_⟩ <;> refine (exec_listener hd rfl hst nofun).trans (congrArg Host.Outcome.next ?_)
    · exact (if_pos (hread.mpr hshows)).trans (joinGroup_eq (s := handed s rest) hst hown)
    · exact if_neg (mt hread.mp hshows)

end Sys2Proof.GroupState
end

section
/-! PROOF. The start of a frame (spec/06, spec/07, R132, R133, R151): the candidate of the Transmit Queue, and the idle report that starts it. -/

namespace Sys2Proof.FrameStart

/-! The proofs here are elaborated one after another: side by side, each costs a thread, and the threads of the whole text share one memory limit. -/

set_option Elab.async false

open Sys2Proof.Machine

theorem cls_le_three (k : FrameKind) : k.cls ≤ 3 := by cases k <;> decide

/-- The search for the lowest class stops at the first class that is present. -/
theorem findSome?_classes {α : Type} {f : Nat → Option α} {c : Nat} {a : α} (hc : c ≤ 3) (hbelow : ∀ k, k < c → f k = none) (hat : f c = some a) :
    [0, 1, 2, 3].findSome? f = some a := by
  interval_cases c <;> simp_all

section
variable {q : TransmitQueue} {before after : List TxEntry} {e : TxEntry} (hq : q.entries = before ++ e :: after)
include hq

/-- The candidate is the entry that none of a lower class, nor one of its own class queued earlier, stands against (R133). -/
theorem candidate?_eq (hbefore : ∀ x ∈ before, e.frame.kind.cls < x.frame.kind.cls) (hafter : ∀ x ∈ after, e.frame.kind.cls ≤ x.frame.kind.cls) :
    q.candidate? = some e := by
  refine findSome?_classes (cls_le_three e.frame.kind) (fun k hk => ?_) ?_
  · refine List.find?_eq_none.mpr fun x hx => ?_
    have hle : e.frame.kind.cls ≤ x.frame.kind.cls := by
      rw [hq, List.mem_append, List.mem_cons] at hx
      obtain hx | rfl | hx := hx
      · exact (hbefore x hx).le
      · exact le_rfl
      · exact hafter x hx
    simpa using (hk.trans_le hle).ne'
  · have hskip : before.find? (fun x => x.frame.kind.cls == e.frame.kind.cls) = none :=
      List.find?_eq_none.mpr fun x hx => by simpa using (hbefore x hx).ne'
    simp [hq, List.find?_append, hskip]

/-- With none in flight no other entry has the identity of the candidate (R129, R142). -/
theorem other_ids (hs : q.Sound) (hnone : ∀ x ∈ before ++ e :: after, x.inFlight = false) : ∀ x ∈ before ++ after, x.frame.id ≠ e.frame.id := by
  have hes := TransmitQ.sound_entries hs
  have hall : q.entries.filter (fun x => !x.orphan) = before ++ e :: after := by
    rw [← hq]
    exact List.filter_eq_self.mpr fun x hx => by simp [TransmitQ.no_orphan hes (hq ▸ hnone) x hx]
  have hids := hes.ids
  rw [hall, (List.perm_middle.map fun x : TxEntry => x.frame.id).nodup_iff, List.map_cons, List.nodup_cons] at hids
  exact fun x hx hid => hids.1 (hid ▸ List.mem_map_of_mem hx)

/-- The candidate takes off at its place, with the payload it goes out with (R133, R65). -/
theorem start_eq (f : Frame) (hothers : ∀ x ∈ before ++ after, x.frame.id ≠ e.frame.id) :
    q.start e.frame.id f = { q with entries := before ++ { e with frame := f, inFlight := true } :: after } := by
  have hmap := RosterPresence.map_ite_eq (before := before) (after := after) (e := e) (fun x => x.frame.id == e.frame.id)
    (fun x => { x with frame := f, inFlight := true }) (by simp) (fun x hx => by simpa using hothers x hx)
  simp only [beq_iff_eq] at hmap
  rw [TransmitQueue.start, hq, hmap]

end

theorem flying?_eq_none {q : TransmitQueue} (hnone : ∀ x ∈ q.entries, x.inFlight = false) : q.flying? = none :=
  List.find?_eq_none.mpr fun x hx => by simp [hnone x hx]

theorem offers_iff (st : StationState) : st.offers = true ↔
    st = .listen ∨ st = .founding ∨ st = .joining ∨ st = .catchup ∨ st = .online ∨ st = .leaving := by
  cases st <;> simp [StationState.offers]

/-- An idle report with a candidate starts it (R133). -/
theorem idleReport_starts {s : State} {e : TxEntry} (hline : s.line.phase = .idle) (hfly : s.tx.flying? = none)
    (hst : s.member.state.offers = true) (hcand : s.tx.candidate? = some e) : s.idleReport = s.startFrame e := by
  simp [State.idleReport, hline, hfly, hst, hcand]

/-- Settles O25: the candidate is the entry of the statement, and without an idle report or a candidate nothing starts. -/
theorem frameStartSendsTheOldestOfTheLowestClass : Obligations.FrameStartSendsTheOldestOfTheLowestClass := by
  constructor
  · intro s before after e hline hs hq hnone hbefore hafter hst applied sent
    have happlied : applied = s.allDelivered := s.allDelivered_eq_exec.symm
    have hsent : s.outgoing e.frame = sent := by
      simp only [sent, happlied]
      cases e.frame <;> rfl
    have hstart : exec .frameStart s = .next (s.startFrame e) :=
      congrArg Host.Outcome.next (idleReport_starts hline (flying?_eq_none (by rwa [hq])) ((offers_iff _).mpr hst) (candidate?_eq hq hbefore hafter))
    refine ⟨by rw [happlied]; exact s.allDelivered_delivery, hstart.trans (congrArg Host.Outcome.next ?_)⟩
    simp only [State.startFrame, hsent, start_eq hq sent (other_ids hq hs hnone), LineController.enterFrame]
  · intro s h
    refine congrArg Host.Outcome.next ?_
    obtain ⟨e, hcand, hline, hfly, hst, -⟩ | ⟨-, hnothing⟩ := s.idleReport_spec
    · refine absurd h ?_
      have hnotFlying : s.tx.entries.any (fun x => x.inFlight) = false := by
        rw [← LeaseTime.flying_isSome, hfly]
        rfl
      have hentries : s.tx.entries ≠ [] := fun hnil => by simp [TransmitQueue.candidate?, hnil] at hcand
      rw [offers_iff] at hst
      simp only [hline, hnotFlying, hentries]
      obtain h | h | h | h | h | h := hst <;> simp [h]
    · exact hnothing

end Sys2Proof.FrameStart
end

section
/-! PROOF. The lease rules (spec/01, spec/02): the grant pass exactly, what a lease frame does to the replica, and what its reports do to the slot of
this station. -/

namespace Sys2Proof.LeaseFrames

/-! The proofs here are elaborated one after another: side by side, each costs a thread, and the threads of the whole text share one memory limit. -/

set_option Elab.async false

open Sys2Proof.Machine

/-! ## Holders and the grant pass (R3, R10, R11, R23) -/

/-- A new holder: its deadline, and what is to be watched of it (R3, R23). -/
theorem newHolder_eq (x : LeaseContext) (p : Station) (grant term : Word16) :
    x.newHolder p grant term = {
      station := p, grant := grant, term := term, deadline := x.time + BitVec.ofNat 32 (64 * (term.toNat + x.config.guard.toNat))
      revocation := if p = x.config.station then none
        else if 0 ≤ (x.now - (x.time + BitVec.ofNat 32 (64 * (term.toNat + x.config.guard.toNat)))).toInt then some .marked else some .watching } := by
  simp only [LeaseContext.newHolder, LeaseContext.revocationFor, HostTransactions.reached_eq, decide_eq_true_eq]
  rfl

/-- The holders that waiters become one after another, the counter advancing before each (R11). -/
def grantedHolders (x : LeaseContext) (counter : Word16) (ws : List Waiter) : List Holder :=
  ws.zipIdx.map (fun p => x.newHolder p.1.station (counter + BitVec.ofNat 16 (p.2 + 1)) p.1.term)

/-- The reports of grants to this station, in order (R9, R11). -/
def grantReports (x : LeaseContext) (r : ResNo) (hs : List Holder) : List Report :=
  (hs.filter (fun h => h.station = x.me)).map (fun h => .granted r h.grant h.term x.time)

theorem grantedHolders_cons (x : LeaseContext) (counter : Word16) (w : Waiter) (ws : List Waiter) :
    grantedHolders x counter (w :: ws) = x.newHolder w.station (counter + 1) w.term :: grantedHolders x (counter + 1) ws := by
  have hnext (n : Nat) : counter + 1#16 + BitVec.ofNat 16 (n + 1) = counter + BitVec.ofNat 16 (n + 1 + 1) := by
    rw [BitVec.add_assoc, BitVec.ofNat_add (n + 1) 1, BitVec.add_comm (BitVec.ofNat 16 (n + 1))]
  simp [grantedHolders, List.zipIdx_cons, List.zipIdx_succ, Function.comp_def, hnext]

/-- Granting the first waiters, exactly (R11). -/
theorem grantFirst_eq (x : LeaseContext) (r : ResNo) (n : Nat) (e : ResourceEntry) (hn : n ≤ e.waiters.length) :
    x.grantFirst r n e = ({ e with
      counter := e.counter + BitVec.ofNat 16 n, waiters := e.waiters.drop n
      holders := e.holders ++ grantedHolders x e.counter (e.waiters.take n) }, grantReports x r (grantedHolders x e.counter (e.waiters.take n))) := by
  induction n generalizing e with
  | zero => simp [LeaseContext.grantFirst, grantedHolders, grantReports]
  | succ n ih =>
    cases hw : e.waiters with
    | nil => simp [hw] at hn
    | cons w ws =>
      have hcounter : e.counter + 1 + BitVec.ofNat 16 n = e.counter + BitVec.ofNat 16 (n + 1) := by
        rw [BitVec.add_assoc, Nat.add_comm n 1, BitVec.ofNat_add]
        rfl
      have hrest := ih { e with counter := e.counter + 1, waiters := ws, holders := e.holders ++ [x.newHolder w.station (e.counter + 1) w.term] }
        (by simpa [hw] using hn)
      have hreport : x.reportIf w.station (.granted r (e.counter + 1) w.term x.time)
          = grantReports x r [x.newHolder w.station (e.counter + 1) w.term] := by
        by_cases hme : w.station = x.me <;> simp [LeaseContext.reportIf, grantReports, LeaseContext.newHolder, hme]
      simp only [LeaseContext.grantFirst, hw, hrest, hcounter, hreport, List.take_succ_cons, List.drop_succ_cons, grantedHolders_cons,
        List.append_assoc, List.singleton_append]
      rw [grantReports, grantReports, ← List.map_append, ← List.filter_append, List.singleton_append]
      rfl

/-- A grant pass over one entry, exactly (R10, R11). -/
theorem passEntry_eq (x : LeaseContext) (r : ResNo) (e : ResourceEntry) :
    x.passEntry r e = ({
      state := grantState e.state e.waiters
      counter := e.counter + BitVec.ofNat 16 (grantCount e.state e.waiters), waiters := e.waiters.drop (grantCount e.state e.waiters)
      holders := e.holders ++ grantedHolders x e.counter (e.waiters.take (grantCount e.state e.waiters)) },
      grantReports x r (grantedHolders x e.counter (e.waiters.take (grantCount e.state e.waiters)))) :=
  grantFirst_eq x r _ { e with state := grantState e.state e.waiters } (grantCount_le _ _)

/-- How many waiters are granted, by the state and the head of the list (R10). -/
theorem grantCount_eq (st : ResourceState) (ws : List Waiter) :
    grantCount st ws = match st, ws.head? with
      | _, none => 0
      | .exclusive, some _ => 0
      | .free, some w => if w.mode = .exclusive then 1 else (ws.takeWhile (fun w => w.mode = .shared)).length
      | .shared, some w => if w.mode = .exclusive then 0 else (ws.takeWhile (fun w => w.mode = .shared)).length := by
  have hbeq (w : Waiter) : (w.mode == .shared) = decide (w.mode = .shared) := Bool.beq_eq_decide_eq _ _
  cases ws with
  | nil => cases st <;> rfl
  | cons w ws => cases st <;> cases hm : w.mode <;> simp [grantCount, hm, hbeq]

/-- Settles O33: a grant pass, with its count and its holders written out. -/
theorem grantPassGrantsTheLeadingWaiters : Obligations.GrantPassGrantsTheLeadingWaiters := by
  intro x r e shared n granted out
  have hn : grantCount e.state e.waiters = n := grantCount_eq e.state e.waiters
  have hgranted : grantedHolders x e.counter (e.waiters.take n) = granted := List.map_congr_left fun p _ => newHolder_eq x _ _ _
  have hout : out = _ := passEntry_eq x r e
  rw [hn, hgranted] at hout
  rw [hout]
  refine ⟨rfl, rfl, rfl, ?_, rfl⟩
  simp only [grantState, hn]
  cases e.waiters <;> rfl

end Sys2Proof.LeaseFrames
end

section
/-! PROOF. The deadlines that propose a peer's end (R23, R88). -/

namespace Sys2Proof.PeerDeadlines

/-! The proofs here are elaborated one after another: side by side, each costs a thread, and the threads of the whole text share one memory limit. -/

set_option Elab.async false

open Sys2Proof.Machine

/-- Setting the revocation state of a holder entry, in the table (R23). -/
theorem setRevocation_fin (rep : Replica) (r : Fin 64) (p : Station) (v : RevocationState) :
    rep.setRevocation r.val p v = { rep with table := rep.table.set r { rep.table[r] with
      holders := rep.table[r].holders.map (fun x => if x.station = p then { x with revocation := some v } else x) } } := by
  simp [Replica.setRevocation, Replica.setEntry_lt]

theorem replicaExpiry_watched (s : State) (r : Fin 64) (p : Station) (h : Holder) (hh : (s.replica.table[r]).holder? p = some h)
    (hw : h.revocation = some .watching) (hreached : reached s.now h.deadline = true) : s.replicaExpiry r p = s.expireHolder r h := by
  rw [State.replicaExpiry, Replica.entry_fin, hh]
  simp [hw, hreached]

theorem presenceExpiry_reached (s : State) (p : Station) (hst : s.member.state = .online) (hexp : expired s.now (s.peer p).presence = true) :
    s.presenceExpiry p = if (s.peer p).departQueued = true then s.setPeer p { s.peer p with presence := none }
      else (s.setPeer p { s.peer p with presence := none, departQueued := true }).queueFrame (.depart p) := by
  simp only [State.presenceExpiry, hst, hexp, decide_true, Bool.true_and, if_true]

/-- Settles O55: the entry that expires, and the presence deadline by the departure state. -/
theorem peerDeadlinesProposeItsEnd : Obligations.PeerDeadlinesProposeItsEnd := by
  refine ⟨fun s r p h hh hw hreached => ?_, fun s p d hst hd hreached => ?_⟩
  · obtain ⟨-, rfl⟩ := ResourceEntry.holder?_spec hh
    have hexp := replicaExpiry_watched s r h.station h hh hw ((reached_iff _ _).mpr hreached)
    simp only [exec, execReplicaDeadline, hexp, State.expireHolder, setRevocation_fin, Bool.and_eq_true, decide_eq_true_eq]
  · have hexp : expired s.now (s.peer p).presence = true := by
      rw [State.peer, hd]
      exact (reached_iff _ _).mpr hreached
    exact congrArg Host.Outcome.next (presenceExpiry_reached s p hst hexp)

end Sys2Proof.PeerDeadlines
end

section
/-! PROOF. The line sequence number counts every frame handed inward to a live replica (R28, R195). -/

namespace Sys2Proof.SequenceNumber

/-! The proofs here are elaborated one after another: side by side, each costs a thread, and the threads of the whole text share one memory limit. -/

set_option Elab.async false

open Sys2Proof.Machine
open Sys2Proof.RosterPresence
open Sys2Proof.GroupState

/-- The number stands, or the membership has ended. -/
def KeepsSeq (s t : State) : Prop := t.replica.seq = s.replica.seq ∨ t.replica.live = false

theorem keepsSeq_of_replica {s t : State} (h : t.replica = s.replica) : KeepsSeq s t := .inl (congrArg Replica.seq h)

/-! ## The effects of a frame (R7 steps 1 and 2) -/

theorem liveQuit_keepsSeq (s : State) (d : Delivered) : KeepsSeq s (s.liveQuit d false) := by
  unfold State.liveQuit State.ownQuit State.peerQuit
  split_ifs
  · exact .inl rfl
  · exact .inr rfl
  · exact .inr (by simp [State.abandonEnds, State.enterBeaconing, State.stationClear, Replica.clear])
  · exact .inl rfl
  · exact .inl (by simp [peerGone_seq])
  · exact .inl rfl

theorem liveDepart_keepsSeq (s : State) (d : Delivered) (p : Station) : KeepsSeq s (s.liveDepart d p false) := by
  unfold State.liveDepart
  split_ifs
  · exact .inl rfl
  · exact .inl (by simp [peerGone_seq])
  · exact .inl (by simp [Replica.countStale])

theorem liveSnapEnd_keepsSeq (s : State) (d : Delivered) (j : Station) : KeepsSeq s (s.liveSnapEnd d j) := by
  unfold State.liveSnapEnd
  split
  · simp only
    split_ifs <;> exact keepsSeq_of_replica (by simp)
  · exact .inl rfl

/-- What a frame does at a live replica and roster leaves the number standing; only a departure of this station ends it. -/
theorem liveEffects_keepsSeq (s : State) (d : Delivered) : KeepsSeq s (s.liveEffects d false) := by
  unfold State.liveEffects
  split
  · exact .inl (by rw [State.liveClaim, takeLease_replica, applyClaim_seq])
  · exact .inl (by rw [State.liveDrop, takeLease_replica, applyDrop_seq])
  · exact .inl (by rw [State.liveExtend, takeLease_replica, applyExtend_seq])
  · exact .inl (by rw [State.liveWithdraw, takeLease_replica, applyWithdraw_seq])
  · exact .inl (by rw [State.liveRevoke, takeLease_replica, applyRevoke_seq])
  · exact liveQuit_keepsSeq s d
  · exact liveDepart_keepsSeq s d _
  · exact .inl rfl
  · exact keepsSeq_of_replica (by simp)
  · unfold State.liveAdmit
    split_ifs
    · exact keepsSeq_of_replica (by simp)
    · exact .inl rfl
  · exact keepsSeq_of_replica (by simp)
  · unfold State.liveSnapshot
    split_ifs
    · exact keepsSeq_of_replica (by simp)
    · exact .inl rfl
  · exact liveSnapEnd_keepsSeq s d _
  · exact keepsSeq_of_replica (by simp)

/-! ## The end of the application, and the way to it (R7, R28, R159) -/

theorem queueRevokes_live (s : State) (l : List (Nat × Holder)) : (s.queueRevokes l).replica.live = s.replica.live := by
  induction l generalizing s with
  | nil => rfl
  | cons x l ih =>
    obtain ⟨r, h⟩ := x
    simp only [State.queueRevokes]
    split
    · rw [ih]; simp
    · rfl

theorem serviceRevocations_live (s : State) : s.serviceRevocations.replica.live = s.replica.live := by
  unfold State.serviceRevocations
  split
  · exact queueRevokes_live s _
  · rfl

/-- An application after which the replica is live has advanced the number by one. -/
theorem applyLive_seq (s : State) (d : Delivered) (hlive : (s.applyLive d false).replica.live = true) :
    (s.applyLive d false).replica.seq = s.replica.seq + 1 := by
  have hkeeps := liveEffects_keepsSeq s d
  simp only [State.applyLive, State.finishApplication, Bool.false_or, Bool.not_eq_true', serviceRevocations_live] at hlive ⊢
  split_ifs at hlive ⊢ with hdead
  · simp [serviceRevocations_live, hdead] at hlive
  · simp only [serviceRevocations_seq]
    rw [hkeeps.resolve_right hdead]

/-- The states in which a frame handed inward is applied to a live replica (R159). -/
theorem routeFrame_live (s : State) (d : Delivered) (hlive : s.replica.live = true)
    (hst : s.member.state = .founding ∨ s.member.state = .online ∨ s.member.state = .mute ∨ s.member.state = .leaving) :
    s.routeFrame d = s.applyLive d false := by
  obtain h | h | h | h := hst <;> simp [State.routeFrame, h, hlive]

/-- The kinds of the own membership frame (R97). -/
theorem isOwnKind_iff (f : Frame) : (OwnKind.ofId f.id).isSome = true ↔ (f.kind = .found ∨ f.kind = .apply) ∨ f = .quit := by
  cases f <;> simp [Frame.id, Frame.kind, OwnKind.ofId]

/-- A frame handed inward that does not end an own join by an orphan's note is applied, or it ends this station's membership. -/
theorem receive_live (s : State) (d : Delivered) (hlive : s.replica.live = true)
    (hst : s.member.state = .founding ∨ s.member.state = .online ∨ s.member.state = .mute ∨ s.member.state = .leaving)
    (hnote : ¬ (d.own = true ∧ (d.frame.kind = .found ∨ d.frame.kind = .apply) ∧ OwnKind.ofId d.frame.id = s.member.orphanNote)) :
    (s.receive d).replica.live = false
      ∨ ∃ u : State, u.replica = s.replica ∧ s.receive d = u.applyLive d false := by
  unfold State.receive
  extract_lets taken member cleared t
  have htaken : taken.replica = s.replica ∧ taken.member = s.member := by
    unfold taken
    split_ifs <;> exact ⟨rfl, rfl⟩
  obtain ⟨hrep, hmem⟩ := htaken
  split_ifs with hends hevict
  · have hquit : d.frame = .quit := by
      simp only [State.endsNote, hmem, Bool.and_eq_true, beq_iff_eq] at hends
      obtain ⟨⟨hown, hsome⟩, heq⟩ := hends
      exact ((isOwnKind_iff d.frame).mp hsome).resolve_left fun hk => hnote ⟨hown, hk, heq⟩
    rw [hquit]
    exact .inr ⟨cleared, hrep, routeFrame_live cleared d (hrep ▸ hlive) (by simpa [cleared, member, hmem] using hst)⟩
  · exact .inl rfl
  · have ht : t.replica = s.replica := by simp [t, hrep]
    exact .inr ⟨t, ht, routeFrame_live t d (ht ▸ hlive) (by simpa [t, hmem] using hst)⟩

/-- Settles O35: a frame handed inward to a live replica is applied, or it ends the membership. -/
theorem sequenceNumberCountsEveryFrame : Obligations.SequenceNumberCountsEveryFrame := by
  intro s t d rest hdel hlive hst hnote hexec hlive'
  rw [GroupState.exec_oldest hdel] at hexec
  obtain rfl := Host.Outcome.next.inj hexec
  obtain hdead | ⟨u, hu, heq⟩ := receive_live (handed s rest) d hlive hst hnote
  · simp [hdead] at hlive'
  · rw [heq] at hlive' ⊢
    rw [applyLive_seq u d hlive', hu]
    rfl

end Sys2Proof.SequenceNumber
end

section
/-! PROOF. Frames of peers that are invalid or stale (R8, R31). -/

namespace Sys2Proof.IgnoredFrames

/-! The proofs here are elaborated one after another: side by side, each costs a thread, and the threads of the whole text share one memory limit. -/

set_option Elab.async false

open Sys2Proof.Machine
open Sys2Proof.GroupState

/-! ## A peer's frame, and the end of its application (R7, R24, R28) -/

/-- A peer's frame that does not name this station in a DEPART is applied. -/
theorem exec_peer {s : State} {d : Delivered} {rest : List Delivered} (h : s.HandedByPeer d rest) (hdep : d.frame ≠ .depart s.me) :
    exec d.frame.kind.handing s = .next ((handed s rest).applyLive d false) :=
  RosterPresence.exec_handedToMember (RosterPresence.HandedByPeer.handedToMember h) hdep

/-- An application whose effects are known and leave the replica live with nothing MARKED. -/
theorem applyLive_of_effects {s t : State} {d : Delivered} (heff : s.liveEffects d false = t) (hlive : t.replica.live = true)
    (hm : t.replica.marked = []) : s.applyLive d false = { t with replica := { t.replica with seq := t.replica.seq + 1 } } := by
  rw [State.applyLive, heff, LeaseTime.finishApplication_eq hm hlive]

/-- A frame counted as invalid or stale, with what it asked of the Transmit Queue (R31). -/
theorem applyLive_counted {s : State} {d : Delivered} (tx : TransmitQueue) (heff : s.liveEffects d false = { s.countStale with tx := tx })
    (hlive : s.replica.live = true) (hm : s.replica.marked = []) :
    s.applyLive d false = { s with
      tx := tx
      replica := { s.replica with stale := if s.replica.stale = 65535 then 65535 else s.replica.stale + 1, seq := s.replica.seq + 1 } } := by
  rw [applyLive_of_effects heff hlive hm, ← TransmitQ.satInc16_eq]
  rfl

/-! ## The checks of R8 -/

theorem isOnline_eq_true_iff (s : State) (p : Station) : s.isOnline p = true ↔ (s.member.roster[p]).state = .online := by
  simp [State.isOnline, State.peer]

theorem valid_eq_false_iff (x : LeaseContext) (online : Bool) (r : ResNo) :
    x.valid online r = false ↔ online = false ∨ x.config.resourceCount ≤ r.toNat := by
  simp only [LeaseContext.valid, Bool.and_eq_false_iff, decide_eq_false_iff_not, Nat.not_lt]

theorem termOk_eq_false_iff (c : ConfigRecord) (t : Word16) : termOk c t = false ↔ t = 0 ∨ t.toNat ≤ 4 * c.guard.toNat := by
  rw [termOk, Bool.and_eq_false_iff, bne_eq_false_iff_eq, decide_eq_false_iff_not, Nat.not_lt]
  rfl

theorem mode_ofCode_eq_none_iff : ∀ c : BitVec 2, Mode.ofCode c = none ↔ c = 0 ∨ c = 3 := by decide

/-! ## Lease frames of a peer that are ignored (R12, R15, R17, R19, R20) -/

/-- What an invalid or stale lease frame of a peer comes to: it is counted, with no report (R9, R31). -/
def ignored (rep : Replica) : LeaseResult := { replica := rep.countStale, reports := [], withdrawals := [] }

section
variable {x : LeaseContext} {p : Station} (hp : p ≠ x.me) (online : Bool) (r : ResNo) (rep : Replica)
include hp

theorem reject_ignored (k : FrameKind) : x.reject p r k rep = ignored rep := by simp [LeaseContext.reject, LeaseContext.reportIf, hp, ignored]

theorem stale_ignored (report : Report) : x.stale p report rep = ignored rep := by simp [LeaseContext.stale, LeaseContext.reportIf, hp, ignored]

theorem applyClaim_ignored (noWait : Bool) (mode : BitVec 2) (term : Word16)
    (h : x.valid online r = false ∨ Mode.ofCode mode = none ∨ termOk x.config term = false ∨ ((rep.entry r.toNat).holder? p).isSome = true
      ∨ ((rep.entry r.toNat).waiter? p).isSome = true ∨ Config.stationEntryMax ≤ rep.count p) :
    x.applyClaim p online r noWait mode term rep = ignored rep := by
  unfold LeaseContext.applyClaim
  cases hmode : Mode.ofCode mode with
  | none => exact reject_ignored hp r rep _
  | some m =>
    simp only [hmode, reduceCtorEq, false_or] at h
    by_cases hchecks : (x.valid online r && termOk x.config term) = true
    · obtain ⟨hvalid, hterm⟩ := Bool.and_eq_true_iff.mp hchecks
      have hentry : (((rep.entry r.toNat).holder? p).isSome || ((rep.entry r.toNat).waiter? p).isSome
          || decide (Config.stationEntryMax ≤ rep.count p)) = true := by
        simpa [hvalid, hterm, or_assoc] using h
      simp only [hchecks, hentry, Bool.not_true, Bool.false_eq_true, if_true, if_false]
      exact reject_ignored hp r rep _
    · simp only [hchecks, Bool.not_false, if_true]
      exact reject_ignored hp r rep _

theorem applyDrop_ignored (grant : Word16)
    (h : x.valid online r = false ∨ ((rep.entry r.toNat).holder? p).map (·.grant) ≠ some grant) :
    x.applyDrop p online r grant rep = ignored rep := by
  unfold LeaseContext.applyDrop
  split_ifs with hvalid
  · exact reject_ignored hp r rep _
  · split
    · rename_i e he
      have hne : e.grant ≠ grant := by simpa [he] using h.resolve_left (by simpa using hvalid)
      rw [if_neg hne]
      exact stale_ignored hp rep _
    · exact stale_ignored hp rep _

theorem applyExtend_ignored (grant term : Word16)
    (h : x.valid online r = false ∨ termOk x.config term = false ∨ ((rep.entry r.toNat).holder? p).map (·.grant) ≠ some grant) :
    x.applyExtend p online r grant term rep = ignored rep := by
  unfold LeaseContext.applyExtend
  split_ifs with hvalid
  · exact reject_ignored hp r rep _
  · simp only [Bool.not_eq_true', Bool.not_eq_false, Bool.and_eq_true] at hvalid
    simp only
    split
    · rename_i e he
      have hne : e.grant ≠ grant := by simpa [he, hvalid] using h
      rw [if_neg hne]
      exact stale_ignored hp rep _
    · exact stale_ignored hp rep _

theorem applyWithdraw_ignored
    (h : x.valid online r = false ∨ ((rep.entry r.toNat).holder? p = none ∧ (rep.entry r.toNat).waiter? p = none)) :
    x.applyWithdraw p online r rep = ignored rep := by
  unfold LeaseContext.applyWithdraw
  split_ifs with hvalid
  · exact reject_ignored hp r rep _
  · obtain ⟨hholder, hwaiter⟩ := h.resolve_left (by simpa using hvalid)
    simp only [hholder, hwaiter]
    exact stale_ignored hp rep _

theorem applyRevoke_ignored (own : Bool) (holder : Station) (grant : Word16)
    (h : x.valid online r = false ∨ ((rep.entry r.toNat).holder? holder).map (·.grant) ≠ some grant) :
    x.applyRevoke p online own r holder grant rep = ignored rep := by
  unfold LeaseContext.applyRevoke
  by_cases hvalid : x.valid online r = true
  · rw [hvalid]
    simp only [Bool.not_true, Bool.false_eq_true, if_false]
    split
    · rename_i e he
      have hne : e.grant ≠ grant := by simpa [he] using h.resolve_left (by simp [hvalid])
      rw [if_neg hne]
      rfl
    · rfl
  · simp only [hvalid, Bool.not_false, if_true]
    exact reject_ignored hp r rep _

end

/-! ## Membership frames of a peer that are ignored (R90, R91, R103, R111) -/

theorem matchesAdmission_eq_true_iff (s : State) (d : Delivered) (j : Station) (inc : Option Word16) :
    s.matchesAdmission d j inc = true
      ↔ ∃ a, s.member.admission = some a ∧ a.admitter = d.sender ∧ a.joiner = j ∧ ∀ i, inc = some i → a.incarnation = i := by
  unfold State.matchesAdmission
  cases ha : s.member.admission with
  | none => simp
  | some a => cases inc <;> simp [and_assoc]

/-- A DEPART for a station whose departure state is NONE leads to the withdrawal of an own one, and changes nothing else (R91). -/
theorem settleDepart_of_notQueued {s : State} {d : Delivered} {q : Station} (ho : d.own = false) (hq : (s.peer q).departQueued = false) :
    s.settleDepart d q = { s with tx := (s.tx.withdraw (.depart q)).2 } := by
  have hself : { s.peer q with departQueued := false } = s.peer q := by rw [← hq]
  simp only [State.settleDepart, ho, Bool.false_eq_true, if_false]
  obtain ⟨-, hasked⟩ | ⟨-, hasked⟩ := s.askDepart_spec q
  · exact hasked
  · rw [hasked, hself]
    exact LeaseTime.setPeer_peer { s with tx := (s.tx.withdraw (.depart q)).2 } q

/-! ## The frames together -/

/-- The frame of a peer changes nothing but the count, and what it asks of the Transmit Queue. -/
def Counted (s : State) (d : Delivered) (tx : TransmitQueue) : Prop := s.liveEffects d false = { s.countStale with tx := tx }

theorem counted_of_takeLease {s : State} {d : Delivered} {out : LeaseResult} (heff : s.liveEffects d false = s.takeLease out)
    (hout : out = ignored s.replica) : Counted s d s.tx := by
  rw [Counted, heff, hout]
  rfl

theorem counted_depart {s : State} {d : Delivered} {q : Station} (hf : d.frame = .depart q) (ho : d.own = false)
    (h : (s.member.roster[d.sender]).state ≠ .online ∨ ((s.member.roster[q]).state = .absent ∧ (s.member.roster[q]).departQueued = false)) :
    Counted s d (if (s.member.roster[d.sender]).state = .online then (s.tx.withdraw (.depart q)).2 else s.tx) := by
  simp only [Counted, State.liveEffects, hf, State.liveDepart]
  by_cases hon : (s.member.roster[d.sender]).state = .online
  · obtain ⟨habsent, hnone⟩ := h.resolve_left (fun h => h hon)
    have hpresent : (s.peer q).present = false := bne_eq_false_iff_eq.mpr habsent
    rw [(isOnline_eq_true_iff s d.sender).mpr hon, hpresent, if_pos hon]
    exact settleDepart_of_notQueued (s := s.countStale) ho hnone
  · rw [Bool.eq_false_iff.mpr (mt (isOnline_eq_true_iff s d.sender).mp hon), if_neg hon]
    rfl

theorem counted_quit {s : State} {d : Delivered} (hf : d.frame = .quit) (hp : d.sender ≠ s.me) (h : (s.member.roster[d.sender]).state = .absent) :
    Counted s d s.tx := by
  have hpresent : (s.peer d.sender).present = false := bne_eq_false_iff_eq.mpr h
  simp only [Counted, State.liveEffects, hf, State.liveQuit, if_neg hp, State.peerQuit, hpresent, Bool.false_eq_true, if_false]
  rfl

/-- A stream frame that matches no admission is counted (R111). -/
theorem counted_stream {s : State} {d : Delivered} {j : Station} {inc : Option Word16}
    (heff : s.matchesAdmission d j inc = false → s.liveEffects d false = s.countStale)
    (h : ¬ ∃ a, s.member.admission = some a ∧ a.admitter = d.sender ∧ a.joiner = j ∧ ∀ i, inc = some i → a.incarnation = i) :
    Counted s d s.tx := by
  rw [Counted, heff (Bool.eq_false_iff.mpr (mt (matchesAdmission_eq_true_iff s d j inc).mp h))]
  rfl

/-- What an ignored frame leads to in the Transmit Queue: a DEPART withdraws an own one for the same station (R91). -/
def askedBy (s : State) (p : Station) (f : Frame) : TransmitQueue :=
  match f with
  | .depart q => if (s.member.roster[p]).state = .online then (s.tx.withdraw (.depart q)).2 else s.tx
  | _ => s.tx

/-- Settles O37: each kind by the check it fails, then the count. -/
theorem invalidAndStaleFramesAreCounted : Obligations.InvalidAndStaleFramesAreCounted := by
  intro s rest p f stamp hd hp outside badTerm e holds matching hbad
  obtain ⟨-, -, -, hlive, hm⟩ := id hd
  have houtside (r : ResNo) : outside r ↔ ((handed s rest).leaseContext stamp).valid ((handed s rest).isOnline p) r = false := by
    rw [valid_eq_false_iff, Bool.eq_false_iff, Ne, isOnline_eq_true_iff]
    rfl
  have hterm (t : Word16) : badTerm t ↔ termOk s.cfg t = false := (termOk_eq_false_iff s.cfg t).symm
  have hany (r : ResNo) : (e r).holders.any (fun h => h.station == p) = ((e r).holder? p).isSome := (HostTransactions.holder?_isSome _ _).symm
  have hanyw (r : ResNo) : (e r).waiters.any (fun w => w.station == p) = ((e r).waiter? p).isSome := (HostTransactions.waiter?_isSome _ _).symm
  suffices hcounted : f ≠ .depart s.me ∧ Counted (handed s rest) { sender := p, frame := f, stamp := stamp, own := false } (askedBy s p f) by
    refine (exec_peer hd hcounted.1).trans (congrArg Host.Outcome.next ?_)
    have happlied := applyLive_counted (s := handed s rest) _ hcounted.2 hlive hm
    cases f <;> exact happlied
  cases f with
  | claim r nw m t =>
    dsimp only at hbad
    rw [houtside, hterm, hany, hanyw] at hbad
    refine ⟨Frame.noConfusion, counted_of_takeLease rfl (applyClaim_ignored hp _ r _ nw m t ?_)⟩
    rw [mode_ofCode_eq_none_iff]
    obtain h | h | h | h | h | h | h := hbad
    · exact .inl h
    · exact .inr (.inl (.inl h))
    · exact .inr (.inl (.inr h))
    · exact .inr (.inr (.inl h))
    · exact .inr (.inr (.inr (.inl h)))
    · exact .inr (.inr (.inr (.inr (.inl h))))
    · exact .inr (.inr (.inr (.inr (.inr h))))
  | drop r g => exact ⟨Frame.noConfusion, counted_of_takeLease rfl (applyDrop_ignored hp _ r _ g (hbad.imp_left (houtside r).mp))⟩
  | extend r g t =>
    exact ⟨Frame.noConfusion, counted_of_takeLease rfl (applyExtend_ignored hp _ r _ g t (hbad.imp (houtside r).mp (Or.imp_left (hterm t).mp)))⟩
  | withdraw r =>
    dsimp only at hbad
    rw [houtside, hany, hanyw, Option.isSome_eq_false_iff, Option.isSome_eq_false_iff, Option.isNone_iff_eq_none, Option.isNone_iff_eq_none] at hbad
    exact ⟨Frame.noConfusion, counted_of_takeLease rfl (applyWithdraw_ignored hp _ r _ hbad)⟩
  | revoke r q g => exact ⟨Frame.noConfusion, counted_of_takeLease rfl (applyRevoke_ignored hp _ r _ false q g (hbad.imp_left (houtside r).mp))⟩
  | quit => exact ⟨Frame.noConfusion, counted_quit rfl hp hbad⟩
  | depart q => exact ⟨fun h => hbad.1 (Frame.depart.inj h), counted_depart rfl rfl hbad.2⟩
  | found => exact ⟨Frame.noConfusion, rfl⟩
  | admitJoiner j i c n st =>
    refine ⟨Frame.noConfusion, counted_stream (j := j) (inc := some i) (fun h => ?_) ?_⟩
    · exact if_neg (Bool.eq_false_iff.mp h)
    · rintro ⟨a, ha, hadm, hj, hi⟩
      exact hbad.elim (fun h => h ⟨a, ha, hadm, hj⟩) (fun h => h ((congrArg _ ha).trans (congrArg some (hi i rfl))))
  | snapshot j part =>
    refine ⟨Frame.noConfusion, counted_stream (j := j) (inc := none) (fun h => ?_) ?_⟩
    · exact if_neg (Bool.eq_false_iff.mp h)
    · rintro ⟨a, ha, hadm, hj, -⟩
      exact hbad ⟨a, ha, hadm, hj⟩
  | snapEnd j digest =>
    refine ⟨Frame.noConfusion, counted_stream (j := j) (inc := none) (fun h => ?_) ?_⟩
    · exact if_neg (Bool.eq_false_iff.mp h)
    · rintro ⟨a, ha, hadm, hj, -⟩
      exact hbad ⟨a, ha, hadm, hj⟩
  | apply => exact hbad.elim
  | beacon => exact hbad.elim
  | decline => exact hbad.elim

end Sys2Proof.IgnoredFrames
end

section
/-! PROOF. Lease frames of peers that are applied (R12 to R20): the Lease Table after each, with no report to this station. -/

namespace Sys2Proof.AppliedLeases

/-! The proofs here are elaborated one after another: side by side, each costs a thread, and the threads of the whole text share one memory limit. -/

set_option Elab.async false

open Sys2Proof.Machine
open Sys2Proof.GroupState
open Sys2Proof.LeaseFrames
open Sys2Proof.IgnoredFrames

/-! ## The Lease Table at a configured resource -/

theorem resNo_toNat (r : Fin 64) : (BitVec.ofNat 8 r.val).toNat = r.val := by
  rw [BitVec.toNat_ofNat]
  exact Nat.mod_eq_of_lt (r.isLt.trans (by decide))

theorem entry_resNo (rep : Replica) (r : Fin 64) : rep.entry (BitVec.ofNat 8 r.val).toNat = rep.table[r] := by
  rw [resNo_toNat, Replica.entry_fin]

theorem setEntry_resNo (rep : Replica) (r : Fin 64) (e : ResourceEntry) :
    rep.setEntry (BitVec.ofNat 8 r.val).toNat e = { rep with table := rep.table.set r e } := by
  rw [resNo_toNat, Replica.setEntry_lt _ _ r.isLt]

theorem valid_eq_true {x : LeaseContext} {online : Bool} {r : Fin 64} (ho : online = true) (hr : r.val < x.config.resourceCount) :
    x.valid online (BitVec.ofNat 8 r.val) = true := by
  simp [LeaseContext.valid, ho, resNo_toNat, hr, -BitVec.toNat_ofNat]

theorem termOk_eq_true {c : ConfigRecord} {t : Word16} (h0 : t ≠ 0) (ht : 4 * c.guard.toNat < t.toNat) : termOk c t = true := by
  rw [← Bool.not_eq_false, termOk_eq_false_iff]
  exact fun h => h.elim h0 (not_le.mpr ht)

theorem mode_ofCode_code (m : Mode) : Mode.ofCode m.code = some m := by cases m <;> rfl

theorem removeHolder_resNo (rep : Replica) (r : Fin 64) (p : Station) :
    rep.removeHolder (BitVec.ofNat 8 r.val) p = { rep with
      table := rep.table.set r (rep.table[r].dropHolder p), counts := rep.counts.set p (rep.counts[p] - 1) } := by
  rw [Replica.removeHolder, entry_resNo, setEntry_resNo]
  rfl

theorem removeWaiter_resNo (rep : Replica) (r : Fin 64) (p : Station) :
    rep.removeWaiter (BitVec.ofNat 8 r.val) p = { rep with
      table := rep.table.set r (rep.table[r].dropWaiter p), counts := rep.counts.set p (rep.counts[p] - 1), poolFree := rep.poolFree + 1 } := by
  rw [Replica.removeWaiter, entry_resNo, setEntry_resNo]
  rfl

/-! ## MARKED entries (R23, R24) -/

/-- A holder that is not to be revoked now. -/
def Unmarked (hs : List Holder) : Prop := ∀ h ∈ hs, h.revocation ≠ some .marked

theorem marked_eq_nil_iff (rep : Replica) : rep.marked = [] ↔ ∀ r : Fin 64, Unmarked (rep.table[r]).holders := by
  simp only [Replica.marked, List.flatMap_eq_nil_iff, List.mem_range, List.map_eq_nil_iff, List.filter_eq_nil_iff, beq_iff_eq]
  refine ⟨fun h r => ?_, fun h r hr => ?_⟩
  · rw [← Replica.entry_fin]
    exact h r.val r.isLt
  · have hentry : rep.entry r = rep.table[(⟨r, hr⟩ : Fin 64)] := Replica.entry_fin rep ⟨r, hr⟩
    rw [hentry]
    exact h ⟨r, hr⟩

/-- The Lease Table stays free of MARKED entries where the entry that is written has none. -/
theorem marked_set {rep rep' : Replica} {r : Fin 64} {e : ResourceEntry} (hm : rep.marked = []) (he : Unmarked e.holders)
    (htable : rep'.table = rep.table.set r e) : rep'.marked = [] := by
  rw [marked_eq_nil_iff] at hm ⊢
  intro k
  rw [htable]
  by_cases hk : r = k
  · subst hk; simpa using he
  · have hne : r.val ≠ k.val := fun h => hk (Fin.ext h)
    simpa [hne] using hm k

/-! ## The grant pass (R10, R11) -/

theorem passEntry_of_none {x : LeaseContext} {r : ResNo} {e : ResourceEntry} (h : grantCount e.state e.waiters = 0) : x.passEntry r e = (e, []) := by
  simp [LeaseContext.passEntry, grantState, h, LeaseContext.grantFirst]

theorem grantPass_resNo (x : LeaseContext) (rep : Replica) (r : Fin 64) :
    x.grantPass (BitVec.ofNat 8 r.val) rep = ({ rep with
        table := rep.table.set r (x.passEntry (BitVec.ofNat 8 r.val) rep.table[r]).1
        poolFree := rep.poolFree + (rep.table[r].waiters.length - (x.passEntry (BitVec.ofNat 8 r.val) rep.table[r]).1.waiters.length) },
      (x.passEntry (BitVec.ofNat 8 r.val) rep.table[r]).2) := by
  have hcount : grantCount rep.table[r].state rep.table[r].waiters
      = rep.table[r].waiters.length - (x.passEntry (BitVec.ofNat 8 r.val) rep.table[r]).1.waiters.length := by
    rw [passEntry_eq, List.length_drop, Nat.sub_sub_self (grantCount_le _ _)]
  simp only [LeaseContext.grantPass, entry_resNo, setEntry_resNo, hcount]

/-- The grant pass on an entry that has just been written. -/
theorem grantPass_written (x : LeaseContext) {rep : Replica} {table : Vector ResourceEntry 64} {r : Fin 64} {e : ResourceEntry}
    (h : rep.table = table.set r e) :
    x.grantPass (BitVec.ofNat 8 r.val) rep = ({ rep with
        table := table.set r (x.passEntry (BitVec.ofNat 8 r.val) e).1
        poolFree := rep.poolFree + (e.waiters.length - (x.passEntry (BitVec.ofNat 8 r.val) e).1.waiters.length) },
      (x.passEntry (BitVec.ofNat 8 r.val) e).2) := by
  have hread : rep.table[r] = e := by simp [h]
  rw [grantPass_resNo, hread, h, Vector.set_set]

/-- A waiter whose deadline, were it granted now, would lie ahead (R3). -/
def Ahead (x : LeaseContext) (w : Waiter) : Prop := (x.now - (x.time + BitVec.ofNat 32 (64 * (w.term.toNat + x.config.guard.toNat)))).toInt < 0

theorem mem_grantedHolders {x : LeaseContext} {counter : Word16} {ws : List Waiter} {h : Holder} (hh : h ∈ grantedHolders x counter ws) :
    ∃ w ∈ ws, ∃ g, h = x.newHolder w.station g w.term := by
  obtain ⟨⟨w, n⟩, hmem, rfl⟩ := List.mem_map.mp hh
  exact ⟨w, (List.mem_zipIdx' hmem).2 ▸ List.getElem_mem _, _, rfl⟩

/-- A new holder of a peer whose deadline lies ahead is watched (R23). -/
theorem newHolder_watching {x : LeaseContext} {p : Station} {term : Word16} (g : Word16) (hp : p ≠ x.me)
    (h : (x.now - (x.time + BitVec.ofNat 32 (64 * (term.toNat + x.config.guard.toNat)))).toInt < 0) :
    x.newHolder p g term = {
      station := p, grant := g, term := term, deadline := x.time + BitVec.ofNat 32 (64 * (term.toNat + x.config.guard.toNat))
      revocation := some .watching } := by
  have hne : p ≠ x.config.station := hp
  rw [newHolder_eq, if_neg hne, if_neg (not_le.mpr h)]

theorem newHolder_unmarked {x : LeaseContext} {p : Station} {term : Word16} (g : Word16)
    (h : p = x.me ∨ (x.now - (x.time + BitVec.ofNat 32 (64 * (term.toNat + x.config.guard.toNat)))).toInt < 0) :
    (x.newHolder p g term).revocation ≠ some .marked := by
  rw [newHolder_eq]
  obtain h | h := h
  · simp [show p = x.config.station from h]
  · simp only [if_neg (not_le.mpr h)]
    split <;> simp

theorem passEntry_unmarked {x : LeaseContext} (r : ResNo) {e : ResourceEntry} (he : Unmarked e.holders)
    (hw : ∀ w ∈ e.waiters, w.station = x.me ∨ Ahead x w) : Unmarked (x.passEntry r e).1.holders := by
  intro h hh
  rw [passEntry_eq] at hh
  obtain hh | hh := List.mem_append.mp hh
  · exact he h hh
  · obtain ⟨w, hmem, g, rfl⟩ := mem_grantedHolders hh
    exact newHolder_unmarked g (hw w (List.mem_of_mem_take hmem))

/-- A grant pass in which this station does not wait reports nothing (R9). -/
theorem passEntry_reports {x : LeaseContext} (r : ResNo) {e : ResourceEntry} (hw : ∀ w ∈ e.waiters, w.station ≠ x.me) : (x.passEntry r e).2 = [] := by
  have hnone : (grantedHolders x e.counter (e.waiters.take (grantCount e.state e.waiters))).filter (fun h => h.station = x.me) = [] := by
    rw [List.filter_eq_nil_iff]
    intro h hh
    obtain ⟨w, hmem, g, rfl⟩ := mem_grantedHolders hh
    simpa [newHolder_eq] using hw w (List.mem_of_mem_take hmem)
  rw [passEntry_eq, grantReports, hnone]
  rfl

/-! ## Ending a holding (R15, R19, R20) -/

/-- What the rest of a resource's entry becomes where the holding of `p` goes: the grant pass runs on it. -/
def passedWithout (x : LeaseContext) (r : ResNo) (p : Station) (e : ResourceEntry) : ResourceEntry × List Report := x.passEntry r (e.dropHolder p)

/-- The replica after the holding of `p` at a resource has ended. -/
def endedAt (x : LeaseContext) (rep : Replica) (r : Fin 64) (p : Station) : Replica :=
  let passed := (passedWithout x (BitVec.ofNat 8 r.val) p rep.table[r]).1
  { rep with
    table := rep.table.set r passed
    counts := rep.counts.set p (rep.counts[p] - 1)
    poolFree := rep.poolFree + (rep.table[r].waiters.length - passed.waiters.length) }

theorem endHolding_resNo (x : LeaseContext) (rep : Replica) (r : Fin 64) (h : Holder) (report : List Report) :
    x.endHolding (BitVec.ofNat 8 r.val) h report rep = {
      replica := endedAt x rep r h.station
      reports := report ++ (passedWithout x (BitVec.ofNat 8 r.val) h.station rep.table[r]).2
      withdrawals := h.queuedRevoke (BitVec.ofNat 8 r.val) } := by
  rw [LeaseContext.endHolding, removeHolder_resNo, grantPass_written x rfl]
  rfl

theorem dropHolder_eq (e : ResourceEntry) (p : Station) :
    e.dropHolder p = { e with
      holders := e.holders.filter (fun x => x.station != p), state := if e.holders.filter (fun x => x.station != p) = [] then .free else e.state } := by
  simp only [ResourceEntry.dropHolder, List.isEmpty_iff]

theorem passedWithout_unmarked {x : LeaseContext} (r : ResNo) (p : Station) {e : ResourceEntry} (he : Unmarked e.holders)
    (hw : ∀ w ∈ e.waiters, w.station = x.me ∨ Ahead x w) : Unmarked (passedWithout x r p e).1.holders :=
  passEntry_unmarked r (fun h hh => he h (List.mem_of_mem_filter hh)) hw

/-! ## What a lease result does to the state (R7) -/

/-- An application of a lease frame that leaves nothing MARKED. -/
theorem applyLive_takeLease {s : State} {d : Delivered} {out : LeaseResult} (heff : s.liveEffects d false = s.takeLease out)
    (hlive : out.replica.live = true) (hm : out.replica.marked = []) :
    s.applyLive d false = { s.takeLease out with replica := { out.replica with seq := out.replica.seq + 1 } } := by
  have hrep : (s.takeLease out).replica = out.replica := RosterPresence.takeLease_replica s out
  rw [applyLive_of_effects heff (by rwa [hrep]) (by rwa [hrep]), hrep]

/-- A peer's lease frame that reports nothing to this station, withdraws nothing and leaves nothing MARKED. -/
theorem exec_quiet {s : State} {d : Delivered} {rest : List Delivered} {out : LeaseResult} {rep : Replica} (h : s.HandedByPeer d rest)
    (hdep : d.frame ≠ .depart s.me) (hout : out = ⟨rep, [], []⟩) (heff : (handed s rest).liveEffects d false = (handed s rest).takeLease out)
    (hlive : rep.live = true) (hm : rep.marked = []) :
    exec d.frame.kind.handing s = .next { handed s rest with replica := { rep with seq := rep.seq + 1 } } := by
  subst hout
  rw [exec_peer h hdep, applyLive_takeLease heff hlive hm]
  rfl

end Sys2Proof.AppliedLeases
end

section
/-! PROOF. CLAIM, EXTEND, DROP, WITHDRAW and REVOKE of peers, applied (R12 to R20). -/

namespace Sys2Proof.PeerLeases

/-! The proofs here are elaborated one after another: side by side, each costs a thread, and the threads of the whole text share one memory limit. -/

set_option Elab.async false

open Sys2Proof.Machine
open Sys2Proof.GroupState
open Sys2Proof.LeaseFrames
open Sys2Proof.IgnoredFrames
open Sys2Proof.AppliedLeases

/-! ## CLAIM (R12, R13, R14) -/

section
variable {x : LeaseContext} {p : Station} {r : Fin 64} {m : Mode} {term : Word16} {rep : Replica}

/-- A CLAIM that passes R8 and R12: granted at once, denied, or queued. -/
theorem applyClaim_valid {online : Bool} (noWait : Bool) (ho : online = true) (hr : r.val < x.config.resourceCount)
    (hterm : termOk x.config term = true) (hholder : ∀ h ∈ rep.table[r].holders, h.station ≠ p) (hwaiter : ∀ w ∈ rep.table[r].waiters, w.station ≠ p)
    (hcount : rep.counts[p] < 8) :
    x.applyClaim p online (BitVec.ofNat 8 r.val) noWait m.code term rep =
      if rep.table[r].grantable m then x.claimGranted p (BitVec.ofNat 8 r.val) m term rep
      else if noWait then { replica := rep, reports := x.reportIf p (.denied (BitVec.ofNat 8 r.val)), withdrawals := [] }
      else x.claimQueued p (BitVec.ofNat 8 r.val) m term rep := by
  have hholder? : rep.table[r].holder? p = none := (LeaseTableSound.holder?_eq_none_iff _ _).mpr fun hp => by
    obtain ⟨h, hmem, rfl⟩ := List.mem_map.mp hp
    exact hholder h hmem rfl
  have hwaiter? : rep.table[r].waiter? p = none := (LeaseTableSound.waiter?_eq_none_iff _ _).mpr fun hp => by
    obtain ⟨w, hmem, rfl⟩ := List.mem_map.mp hp
    exact hwaiter w hmem rfl
  have hroom : ¬ Config.stationEntryMax ≤ rep.count p := not_le.mpr hcount
  simp only [LeaseContext.applyClaim, mode_ofCode_code, valid_eq_true ho hr, hterm, entry_resNo, hholder?, hwaiter?, hroom, Bool.and_self, Bool.not_true,
    Option.isSome_none, Bool.or_self, decide_false, Bool.false_eq_true, if_false]

/-- The state of a resource on which a CLAIM is granted at once: the mode (R13). -/
theorem claimedState_of_grantable {e : ResourceEntry} (h : e.state = .free ∨ (e.state = .shared ∧ m = .shared)) :
    e.claimedState m = if m = .exclusive then .exclusive else .shared := by
  obtain hfree | ⟨hshared, rfl⟩ := h
  · cases m <;> simp [ResourceEntry.claimedState, hfree]
  · simp [ResourceEntry.claimedState, hshared]

theorem grantable_of_empty {e : ResourceEntry} (hw : e.waiters = []) (h : e.state = .free ∨ (e.state = .shared ∧ m = .shared)) : e.grantable m = true := by
  have hnone : e.waiters.isEmpty = true := List.isEmpty_iff.mpr hw
  obtain hfree | ⟨hshared, rfl⟩ := h
  · simp [ResourceEntry.grantable, hfree, hnone]
  · simp [ResourceEntry.grantable, hshared, hnone]

/-- The entry after a CLAIM granted at once (R3, R13). -/
def claimedEntry (x : LeaseContext) (p : Station) (m : Mode) (term : Word16) (e : ResourceEntry) : ResourceEntry :=
  { e with
    state := if m = .exclusive then .exclusive else .shared
    counter := e.counter + 1
    holders := e.holders ++ [x.newHolder p (e.counter + 1) term] }

theorem claimedEntry_watching (e : ResourceEntry) (hp : p ≠ x.me)
    (h : (x.now - (x.time + BitVec.ofNat 32 (64 * (term.toNat + x.config.guard.toNat)))).toInt < 0) :
    claimedEntry x p m term e = { e with
      state := if m = .exclusive then .exclusive else .shared
      counter := e.counter + 1
      holders := e.holders ++ [{
        station := p, grant := e.counter + 1, term := term, deadline := x.time + BitVec.ofNat 32 (64 * (term.toNat + x.config.guard.toNat))
        revocation := some .watching }] } := by
  rw [claimedEntry, newHolder_watching (e.counter + 1) hp h]

/-- The replica after a CLAIM granted at once where nobody waits (R5, R13). -/
def claimedAt (x : LeaseContext) (rep : Replica) (r : Fin 64) (p : Station) (m : Mode) (term : Word16) : Replica :=
  { rep with table := rep.table.set r (claimedEntry x p m term rep.table[r]), counts := rep.counts.set p (rep.counts[p] + 1) }

theorem claimGranted_resNo (hw : rep.table[r].waiters = []) (h : rep.table[r].state = .free ∨ (rep.table[r].state = .shared ∧ m = .shared)) :
    x.claimGranted p (BitVec.ofNat 8 r.val) m term rep = {
      replica := claimedAt x rep r p m term
      reports := x.reportIf p (.granted (BitVec.ofNat 8 r.val) (rep.table[r].counter + 1) term x.time)
      withdrawals := [] } := by
  have hpass : x.passEntry (BitVec.ofNat 8 r.val) (claimedEntry x p m term rep.table[r]) = (claimedEntry x p m term rep.table[r], []) :=
    passEntry_of_none (by
      rw [show (claimedEntry x p m term rep.table[r]).waiters = [] from hw]
      rfl)
  have hentry : { rep.table[r] with
      state := rep.table[r].claimedState m, counter := rep.table[r].counter + 1
      holders := rep.table[r].holders ++ [x.newHolder p (rep.table[r].counter + 1) term] } = claimedEntry x p m term rep.table[r] := by
    rw [claimedState_of_grantable h]
    rfl
  rw [LeaseContext.claimGranted, entry_resNo, setEntry_resNo, hentry]
  rw [grantPass_written x (e := claimedEntry x p m term rep.table[r]) (table := rep.table) rfl, hpass, Nat.sub_self, List.append_nil]
  rfl

/-- The entry after a CLAIM that waits (R14). -/
def waitingEntry (p : Station) (m : Mode) (term : Word16) (e : ResourceEntry) : ResourceEntry :=
  { e with waiters := e.waiters ++ [{ station := p, mode := m, term := term }] }

/-- The replica after a CLAIM that waits, with no grant opened (R4, R5, R14). -/
def waitingAt (rep : Replica) (r : Fin 64) (p : Station) (m : Mode) (term : Word16) : Replica :=
  { rep with
    table := rep.table.set r (waitingEntry p m term rep.table[r]), counts := rep.counts.set p (rep.counts[p] + 1), poolFree := rep.poolFree - 1 }

/-- A resource on which a CLAIM waits: no waiter, the new one included, is granted (R10, R14). -/
theorem waits_spec {e : ResourceEntry}
    (h : e.state = .exclusive ∨ (e.state = .shared ∧ ((e.waiters = [] ∧ m = .exclusive) ∨ e.waiters.head?.map (fun w => w.mode) = some .exclusive))) :
    e.grantable m = false ∧ grantCount e.state (waitingEntry p m term e).waiters = 0 := by
  obtain hex | ⟨hshared, ⟨hw, rfl⟩ | hhead⟩ := h
  · rw [hex]
    refine ⟨by simp [ResourceEntry.grantable, hex], ?_⟩
    cases hw : e.waiters <;> simp [waitingEntry, hw, grantCount]
  · simp [ResourceEntry.grantable, waitingEntry, grantCount, hshared, hw]
  · obtain ⟨w, hw, hmode⟩ := Option.map_eq_some_iff.mp hhead
    obtain ⟨ws, hws⟩ := List.head?_eq_some_iff.mp hw
    simp [ResourceEntry.grantable, waitingEntry, grantCount, hshared, hws, hmode]

theorem claimQueued_resNo (h : grantCount rep.table[r].state (waitingEntry p m term rep.table[r]).waiters = 0) :
    x.claimQueued p (BitVec.ofNat 8 r.val) m term rep = {
      replica := waitingAt rep r p m term
      reports := x.reportIf p (.queued (BitVec.ofNat 8 r.val) (rep.table[r].waiters.length + 1))
      withdrawals := [] } := by
  have hpass : x.passEntry (BitVec.ofNat 8 r.val) (waitingEntry p m term rep.table[r]) = (waitingEntry p m term rep.table[r], []) := passEntry_of_none h
  rw [LeaseContext.claimQueued, entry_resNo, setEntry_resNo]
  dsimp only
  rw [grantPass_written x (e := waitingEntry p m term rep.table[r]) (table := rep.table) rfl, hpass, Nat.sub_self, List.append_nil, List.length_append]
  rfl

end

theorem unmarked_append {hs : List Holder} {h : Holder} (hhs : Unmarked hs) (hh : h.revocation ≠ some .marked) : Unmarked (hs ++ [h]) := by
  intro k hk
  obtain hk | hk := List.mem_append.mp hk
  · exact hhs k hk
  · rwa [List.mem_singleton.mp hk]

/-- Settles O36: a valid CLAIM by what the resource lets in, then the application's end. -/
theorem claimIsGrantedDeniedOrWaits : Obligations.ClaimIsGrantedDeniedOrWaits := by
  refine ⟨?_, ?_⟩
  · intro s rest p stamp r noWait m term hd hp hon hr ht0 ht e deadline hw hholder hcount hstate hahead
    obtain ⟨-, -, -, hlive, hm⟩ := id hd
    let x := s.leaseContext stamp
    have hwaiter : ∀ w ∈ e.waiters, w.station ≠ p := by simp [hw]
    have hout : x.applyClaim p (s.isOnline p) (BitVec.ofNat 8 r.val) noWait m.code term s.replica = ⟨claimedAt x s.replica r p m term, [], []⟩ := by
      rw [applyClaim_valid noWait ((isOnline_eq_true_iff s p).mpr hon) hr (termOk_eq_true ht0 ht) hholder hwaiter hcount,
        if_pos (grantable_of_empty hw hstate), claimGranted_resNo hw hstate, LeaseContext.reportIf, if_neg (show p ≠ x.me from hp)]
    have hunmarked : Unmarked (claimedEntry x p m term e).holders :=
      unmarked_append ((marked_eq_nil_iff _).mp hm r) (newHolder_unmarked _ (.inr hahead))
    refine (exec_quiet hd Frame.noConfusion hout rfl hlive (marked_set hm hunmarked rfl)).trans ?_
    rw [claimedAt, claimedEntry_watching (x := x) s.replica.table[r] hp hahead]
    rfl
  · intro s rest p stamp r noWait m term hd hp hon hr ht0 ht e hwaiter hholder hcount hstate
    obtain ⟨-, -, -, hlive, hm⟩ := id hd
    let x := s.leaseContext stamp
    obtain ⟨hnot, hnone⟩ := waits_spec (p := p) (term := term) hstate
    have hvalid := applyClaim_valid (x := x) (m := m) noWait ((isOnline_eq_true_iff s p).mpr hon) hr (termOk_eq_true ht0 ht) hholder hwaiter hcount
    rw [if_neg (Bool.eq_false_iff.mp hnot)] at hvalid
    split
    · rename_i hnoWait
      have hout : x.applyClaim p (s.isOnline p) (BitVec.ofNat 8 r.val) noWait m.code term s.replica = ⟨s.replica, [], []⟩ := by
        rw [hvalid, if_pos hnoWait, LeaseContext.reportIf, if_neg (show p ≠ x.me from hp)]
      exact exec_quiet hd Frame.noConfusion hout rfl hlive hm
    · rename_i hnoWait
      have hout : x.applyClaim p (s.isOnline p) (BitVec.ofNat 8 r.val) noWait m.code term s.replica = ⟨waitingAt s.replica r p m term, [], []⟩ := by
        rw [hvalid, if_neg hnoWait, claimQueued_resNo hnone, LeaseContext.reportIf, if_neg (show p ≠ x.me from hp)]
      have hunmarked : Unmarked (waitingEntry p m term e).holders := (marked_eq_nil_iff _).mp hm r
      exact exec_quiet hd Frame.noConfusion hout rfl hlive (marked_set hm hunmarked rfl)

/-! ## DROP, WITHDRAW and REVOKE that end an entry (R15, R18, R19, R20) -/

section
variable {x : LeaseContext} {p : Station} {online : Bool} {r : Fin 64} {rep : Replica} {h : Holder}
  (hvalid : x.valid online (BitVec.ofNat 8 r.val) = true)
include hvalid

theorem applyDrop_matching (hh : rep.table[r].holder? p = some h) :
    x.applyDrop p online (BitVec.ofNat 8 r.val) h.grant rep
      = x.endHolding (BitVec.ofNat 8 r.val) h (x.reportIf p (.dropApplied (BitVec.ofNat 8 r.val) h.grant)) rep := by
  simp only [LeaseContext.applyDrop, hvalid, entry_resNo, hh, Bool.not_true, Bool.false_eq_true, if_false, if_true]

theorem applyWithdraw_holder (hw : rep.table[r].waiter? p = none) (hh : rep.table[r].holder? p = some h) :
    x.applyWithdraw p online (BitVec.ofNat 8 r.val) rep
      = x.endHolding (BitVec.ofNat 8 r.val) h (x.reportIf p (.withdrawAsDrop (BitVec.ofNat 8 r.val) h.grant)) rep := by
  simp only [LeaseContext.applyWithdraw, hvalid, entry_resNo, hw, hh, Bool.not_true, Bool.false_eq_true, if_false]

theorem applyRevoke_matching {holder : Station} (hh : rep.table[r].holder? holder = some h) :
    x.applyRevoke p online false (BitVec.ofNat 8 r.val) holder h.grant rep
      = x.endHolding (BitVec.ofNat 8 r.val) h (x.reportIf holder (.revoked (BitVec.ofNat 8 r.val) h.grant)) rep := by
  simp only [LeaseContext.applyRevoke, hvalid, entry_resNo, hh, Bool.not_true, Bool.false_eq_true, if_false, if_true]

/-- The replica after a WITHDRAW of a waiter. -/
def withdrawnAt (x : LeaseContext) (rep : Replica) (r : Fin 64) (p : Station) : Replica :=
  let left := rep.table[r].dropWaiter p
  let passed := (x.passEntry (BitVec.ofNat 8 r.val) left).1
  { rep with
    table := rep.table.set r passed
    counts := rep.counts.set p (rep.counts[p] - 1)
    poolFree := rep.poolFree + 1 + (left.waiters.length - passed.waiters.length) }

theorem applyWithdraw_waiter (hw : ∃ w ∈ rep.table[r].waiters, w.station = p) :
    x.applyWithdraw p online (BitVec.ofNat 8 r.val) rep = {
      replica := withdrawnAt x rep r p
      reports := x.reportIf p (.withdrawFromWait (BitVec.ofNat 8 r.val)) ++ (x.passEntry (BitVec.ofNat 8 r.val) (rep.table[r].dropWaiter p)).2
      withdrawals := [] } := by
  have hsome : (rep.table[r].waiter? p).isSome = true := by
    rw [HostTransactions.waiter?_isSome, List.any_eq_true]
    obtain ⟨w, hmem, hst⟩ := hw
    exact ⟨w, hmem, beq_iff_eq.mpr hst⟩
  obtain ⟨w, hw⟩ := Option.isSome_iff_exists.mp hsome
  simp only [LeaseContext.applyWithdraw, hvalid, entry_resNo, hw, Bool.not_true, Bool.false_eq_true, if_false, removeWaiter_resNo]
  rw [grantPass_written x rfl]
  rfl

end

/-- The end of a peer's holding, with nothing to report or to withdraw (R9, R25). -/
theorem endHolding_quiet {x : LeaseContext} {r : Fin 64} {rep : Replica} {h : Holder} {p : Station} (report : Report) (hp : p ≠ x.me)
    (hrev : h.revocation ≠ some .queued) (hw : ∀ w ∈ rep.table[r].waiters, w.station ≠ x.me) :
    x.endHolding (BitVec.ofNat 8 r.val) h (x.reportIf p report) rep = ⟨endedAt x rep r h.station, [], []⟩ := by
  have hpassed : (passedWithout x (BitVec.ofNat 8 r.val) h.station rep.table[r]).2 = [] := passEntry_reports _ hw
  rw [endHolding_resNo, hpassed, LeaseContext.reportIf, if_neg hp, Holder.queuedRevoke, if_neg hrev]
  rfl

/-- Settles O38: the three frames end the holding alike, and a WITHDRAW a wait entry; the grant pass runs on what is left. -/
theorem endedEntryOpensTheGrantPass : Obligations.EndedEntryOpensTheGrantPass := by
  refine ⟨?_, ?_⟩
  · intro s rest p q f stamp r h hd hp hq hon hr e no hh hrev hframe hwaiters left passed
    obtain ⟨-, -, -, hlive, hm⟩ := id hd
    let x := s.leaseContext stamp
    have hvalid : x.valid (s.isOnline p) no = true := valid_eq_true ((isOnline_eq_true_iff s p).mpr hon) hr
    have hquiet (report : Report) : x.endHolding no h (x.reportIf q report) s.replica = ⟨endedAt x s.replica r q, [], []⟩ := by
      obtain ⟨-, rfl⟩ := ResourceEntry.holder?_spec hh
      exact endHolding_quiet (x := x) report hq hrev fun w hw => (hwaiters w hw).1
    have hmarked : (endedAt x s.replica r q).marked = [] :=
      marked_set hm (passedWithout_unmarked (x := x) no q ((marked_eq_nil_iff _).mp hm r) fun w hw => .inr (hwaiters w hw).2) rfl
    suffices hexec : exec f.kind.handing s = .next { handed s rest with
        replica := { endedAt x s.replica r q with seq := s.replica.seq + 1 } } by
      rw [hexec, endedAt, passedWithout, dropHolder_eq]
      rfl
    obtain ⟨rfl, rfl⟩ | ⟨rfl, rfl, hnone⟩ | rfl := hframe
    · exact exec_quiet hd Frame.noConfusion ((applyDrop_matching hvalid hh).trans (hquiet _)) rfl hlive hmarked
    · have hwaiter : e.waiter? p = none := (LeaseTableSound.waiter?_eq_none_iff _ _).mpr fun hmem => by
        obtain ⟨w, hmem, hst⟩ := List.mem_map.mp hmem
        exact hnone w hmem hst
      exact exec_quiet hd Frame.noConfusion ((applyWithdraw_holder hvalid hwaiter hh).trans (hquiet _)) rfl hlive hmarked
    · exact exec_quiet hd Frame.noConfusion ((applyRevoke_matching hvalid hh).trans (hquiet _)) rfl hlive hmarked
  · intro s rest p stamp r hd hp hon hr e hwaits hwaiters left passed
    obtain ⟨-, -, -, hlive, hm⟩ := id hd
    let x := s.leaseContext stamp
    have hvalid : x.valid (s.isOnline p) (BitVec.ofNat 8 r.val) = true := valid_eq_true ((isOnline_eq_true_iff s p).mpr hon) hr
    have hleft : ∀ w ∈ (e.dropWaiter p).waiters, w.station ≠ x.me ∧ Ahead x w := fun w hw => hwaiters w (List.mem_of_mem_filter hw)
    have hout : x.applyWithdraw p (s.isOnline p) (BitVec.ofNat 8 r.val) s.replica = ⟨withdrawnAt x s.replica r p, [], []⟩ := by
      rw [applyWithdraw_waiter hvalid hwaits, passEntry_reports _ fun w hw => (hleft w hw).1, LeaseContext.reportIf, if_neg (show p ≠ x.me from hp)]
      rfl
    have hunmarked := passEntry_unmarked (x := x) (BitVec.ofNat 8 r.val) (e := e.dropWaiter p) ((marked_eq_nil_iff _).mp hm r) fun w hw => .inr (hleft w hw).2
    exact exec_quiet hd Frame.noConfusion hout rfl hlive (marked_set hm hunmarked rfl)

/-! ## EXTEND (R16, R25) -/

/-- The replica after an EXTEND that renews the holding of `p`. -/
def renewedAt (x : LeaseContext) (rep : Replica) (r : Fin 64) (p : Station) (term : Word16) : Replica :=
  { rep with table := rep.table.set r { rep.table[r] with
      counter := rep.table[r].counter + 1, holders := x.renewHolders p (rep.table[r].counter + 1) term rep.table[r].holders } }

theorem applyExtend_matching {x : LeaseContext} {p : Station} {online : Bool} {r : Fin 64} {rep : Replica} {h : Holder} {term : Word16}
    (hvalid : x.valid online (BitVec.ofNat 8 r.val) = true) (hterm : termOk x.config term = true) (hh : rep.table[r].holder? p = some h) :
    x.applyExtend p online (BitVec.ofNat 8 r.val) h.grant term rep = {
      replica := renewedAt x rep r p term
      reports := x.reportIf p (.extendApplied (BitVec.ofNat 8 r.val) (rep.table[r].counter + 1) term x.time)
      withdrawals := h.queuedRevoke (BitVec.ofNat 8 r.val) } := by
  simp only [LeaseContext.applyExtend, hvalid, hterm, entry_resNo, hh, setEntry_resNo, Bool.and_self, Bool.not_true, Bool.false_eq_true, if_false, if_true]
  rfl

/-- The only holding of a station in a list, renewed in its place. -/
theorem renewHolders_split (x : LeaseContext) {p : Station} (g term : Word16) {before after : List Holder} {h : Holder} (hst : h.station = p)
    (hothers : ∀ k ∈ before ++ after, k.station ≠ p) :
    x.renewHolders p g term (before ++ h :: after) = before ++ x.newHolder p g term :: after := by
  have hkeep (l : List Holder) (hl : ∀ k ∈ l, k.station ≠ p) : x.renewHolders p g term l = l :=
    (List.map_congr_left fun k hk => if_neg (hl k hk)).trans (List.map_id l)
  have hb := hkeep before fun k hk => hothers k (List.mem_append_left _ hk)
  have ha := hkeep after fun k hk => hothers k (List.mem_append_right _ hk)
  simp only [LeaseContext.renewHolders, List.map_append, List.map_cons, if_pos hst] at ha hb ⊢
  rw [ha, hb]

theorem holder?_split {e : ResourceEntry} {p : Station} {before after : List Holder} {h : Holder} (he : e.holders = before ++ h :: after)
    (hst : h.station = p) (hothers : ∀ k ∈ before ++ after, k.station ≠ p) : e.holder? p = some h := by
  have hbefore : before.find? (fun k => k.station == p) = none :=
    List.find?_eq_none.mpr fun k hk => by simpa using hothers k (List.mem_append_left _ hk)
  rw [ResourceEntry.holder?, he, List.find?_append, hbefore, List.find?_cons_of_pos (by simpa using hst)]
  rfl

theorem renewHolders_unmarked {x : LeaseContext} {p : Station} {term : Word16} (g : Word16) {hs : List Holder} (hhs : Unmarked hs)
    (h : p = x.me ∨ (x.now - (x.time + BitVec.ofNat 32 (64 * (term.toNat + x.config.guard.toNat)))).toInt < 0) :
    Unmarked (x.renewHolders p g term hs) := by
  intro k hk
  obtain ⟨k, hmem, rfl⟩ := List.mem_map.mp hk
  split
  · exact newHolder_unmarked g h
  · exact hhs k hmem

/-- The REVOKE queued for a holding is withdrawn (R25). -/
theorem withdrawAll_queuedRevoke (s : State) (h : Holder) (r : ResNo) :
    s.withdrawAll (h.queuedRevoke r)
      = { s with tx := if h.revocation = some .queued then (s.tx.withdraw (.revoke r h.station h.grant)).2 else s.tx } := by
  by_cases hrev : h.revocation = some .queued
  · rw [Holder.queuedRevoke, if_pos hrev, if_pos hrev]
    rfl
  · rw [Holder.queuedRevoke, if_neg hrev, if_neg hrev]
    rfl

/-- Settles O39: the holding renewed in its place, and a REVOKE queued for the old one withdrawn. -/
theorem extendRenewsInPlace : Obligations.ExtendRenewsInPlace := by
  intro s rest p stamp r term h before after hd hp hon hr ht0 ht e deadline he hst hothers hahead
  obtain ⟨-, -, -, hlive, hm⟩ := id hd
  let x := s.leaseContext stamp
  have hvalid : x.valid (s.isOnline p) (BitVec.ofNat 8 r.val) = true := valid_eq_true ((isOnline_eq_true_iff s p).mpr hon) hr
  have hout : x.applyExtend p (s.isOnline p) (BitVec.ofNat 8 r.val) h.grant term s.replica
      = ⟨renewedAt x s.replica r p term, [], h.queuedRevoke (BitVec.ofNat 8 r.val)⟩ := by
    rw [applyExtend_matching hvalid (termOk_eq_true ht0 ht) (holder?_split he hst hothers), LeaseContext.reportIf, if_neg (show p ≠ x.me from hp)]
  have hmarked : (renewedAt x s.replica r p term).marked = [] :=
    marked_set hm (renewHolders_unmarked (x := x) _ ((marked_eq_nil_iff _).mp hm r) (.inr hahead)) rfl
  have heff : (handed s rest).liveEffects { sender := p, frame := .extend (BitVec.ofNat 8 r.val) h.grant term, stamp := stamp, own := false } false
      = (handed s rest).takeLease ⟨renewedAt x s.replica r p term, [], h.queuedRevoke (BitVec.ofNat 8 r.val)⟩ :=
    congrArg (handed s rest).takeLease hout
  have htaken : (handed s rest).takeLease ⟨renewedAt x s.replica r p term, [], h.queuedRevoke (BitVec.ofNat 8 r.val)⟩
      = { handed s rest with
          replica := renewedAt x s.replica r p term
          tx := if h.revocation = some .queued then (s.tx.withdraw (.revoke (BitVec.ofNat 8 r.val) h.station h.grant)).2 else s.tx } :=
    withdrawAll_queuedRevoke { handed s rest with replica := renewedAt x s.replica r p term } h _
  have hholders : x.renewHolders p (e.counter + 1) term e.holders
      = before ++ { station := p, grant := e.counter + 1, term := term, deadline := deadline, revocation := some .watching } :: after := by
    rw [he, renewHolders_split x _ term hst hothers, newHolder_watching (x := x) _ hp hahead]
    rfl
  refine (exec_peer hd Frame.noConfusion).trans (congrArg Host.Outcome.next ?_)
  rw [applyLive_takeLease heff hlive hmarked, htaken, renewedAt, hholders, hst]
  rfl

end Sys2Proof.PeerLeases
end

section
/-! PROOF. Lease frames whose application reports to this station (R9): the slot that each settles, with the Lease Table (R40 to R56). -/

namespace Sys2Proof.OwnLeases

/-! The proofs here are elaborated one after another: side by side, each costs a thread, and the threads of the whole text share one memory limit. -/

set_option Elab.async false

open Sys2Proof.Machine
open Sys2Proof.GroupState
open Sys2Proof.LeaseFrames
open Sys2Proof.IgnoredFrames
open Sys2Proof.AppliedLeases
open Sys2Proof.PeerLeases
open Sys2Proof.LocalClaims

/-! ## A lease frame handed to an ONLINE station (R134, R158, R159) -/

/-- The kinds of the lease frames (R8). -/
def IsLeaseFrame (k : FrameKind) : Prop := k = .claim ∨ k = .drop ∨ k = .extend ∨ k = .withdraw ∨ k = .revoke

/-- The state in which a frame is applied: an own one no longer awaits its delivery (R134). -/
def arrived (s : State) (d : Delivered) (rest : List Delivered) : State :=
  { handed s rest with tx := if d.own then { s.tx with awaiting := s.tx.awaiting.erase d.frame.id } else s.tx }

/-- The state that a report of the application finds, with the replica as applied. -/
def arrivedWith (s : State) (d : Delivered) (rest : List Delivered) (rep : Replica) : State := { arrived s d rest with replica := rep }

theorem exec_lease {s : State} {d : Delivered} {rest : List Delivered} (hd : s.line.delivery = d :: rest) (hst : s.member.state = .online)
    (hk : IsLeaseFrame d.frame.kind) : exec d.frame.kind.handing s = .next ((arrived s d rest).applyLive d false) := by
  rw [GroupState.exec_oldest hd]
  have hown : OwnKind.ofId d.frame.id = none := by
    cases hf : d.frame <;> simp [IsLeaseFrame, Frame.kind, hf] at hk <;> rfl
  have harrived : (if d.own then { handed s rest with tx := (handed s rest).tx.delivered d.frame.id } else handed s rest) = arrived s d rest := by
    cases ho : d.own <;> simp [arrived, ho, TransmitQueue.delivered, handed]
  have hnote : (arrived s d rest).endsNote d = false := by simp [State.endsNote, hown]
  have hbeacon : (arrived s d rest).beaconDelivered d = arrived s d rest := by
    cases hf : d.frame <;> simp [IsLeaseFrame, Frame.kind, hf] at hk <;> simp [State.beaconDelivered, hf]
  have hleft : (arrived s d rest).ownDelivered d = arrived s d rest := by simp [State.ownDelivered, hown]
  have hevicted : (arrived s d rest).evictedBy d = false := by
    cases hf : d.frame <;> simp [IsLeaseFrame, Frame.kind, hf] at hk <;> simp [State.evictedBy, hf]
  simp only [State.receive, harrived, hnote, hbeacon, hleft, hevicted, Bool.false_eq_true, if_false]
  rw [RosterPresence.routeFrame_of_member (s := arrived s d rest) d (.inr hst)]

/-- A lease frame that writes one entry and reports once to a slot of this station. -/
theorem exec_settles {s : State} {d : Delivered} {rest : List Delivered} {out : LeaseResult} {r : Fin 64} {e : ResourceEntry} {counts : Vector Nat 16}
    {pool : Nat} {report : Report} {i : Fin 8} {sl : Slot} {told : List EventRecord}
    (hd : s.line.delivery = d :: rest) (hst : s.member.state = .online) (hlive : s.replica.live = true) (hm : s.replica.marked = [])
    (hk : IsLeaseFrame d.frame.kind)
    (hout : out = ⟨{ s.replica with table := s.replica.table.set r e, counts := counts, poolFree := pool }, [report], []⟩)
    (heff : (arrived s d rest).liveEffects d false = (arrived s d rest).takeLease out) (he : Unmarked e.holders)
    (hreport : ∀ rep, (arrivedWith s d rest rep).claimReport report = moved (arrivedWith s d rest rep) i sl told) :
    exec d.frame.kind.handing s = .next { s with
      line := { s.line with delivery := rest }
      tx := if d.own then { s.tx with awaiting := s.tx.awaiting.erase d.frame.id } else s.tx
      host := told.foldl HostPort.raise s.host
      claims := s.claims.set i sl
      replica := { s.replica with table := s.replica.table.set r e, counts := counts, poolFree := pool, seq := s.replica.seq + 1 } } := by
  subst hout
  have htaken : (arrived s d rest).takeLease ⟨{ s.replica with table := s.replica.table.set r e, counts := counts, poolFree := pool }, [report], []⟩
      = moved (arrivedWith s d rest { s.replica with table := s.replica.table.set r e, counts := counts, poolFree := pool }) i sl told :=
    hreport _
  rw [exec_lease hd hst hk, applyLive_takeLease heff hlive (marked_set hm he rfl), htaken]
  rfl

/-! ## Own holders and events -/

theorem newHolder_mine (x : LeaseContext) (g term : Word16) :
    x.newHolder x.me g term = {
      station := x.me, grant := g, term := term, deadline := x.time + BitVec.ofNat 32 (64 * (term.toNat + x.config.guard.toNat)), revocation := none } := by
  rw [newHolder_eq]
  exact congrArg (Holder.mk _ _ _ _) (if_pos rfl)

/-- An event about the resource of a slot. -/
theorem event_at {sl : Slot} {no : ResNo} (h : sl.resource = no) (k : EventKind) (tag : Byte) (g : Word16) (detail count : Byte) :
    sl.event k tag g detail count = { kind := k, tag := tag, subject := no, grant := g, detail := detail, count := count } := by
  rw [Slot.event, h]

theorem reportIf_me (x : LeaseContext) (report : Report) : x.reportIf x.me report = [report] := if_pos rfl

theorem holder?_singleton {e : ResourceEntry} {h : Holder} {p : Station} (he : e.holders = [h]) (hp : h.station = p) : e.holder? p = some h :=
  holder?_split (before := []) (after := []) he hp (by simp)

/-- The entry of a resource whose only holder goes. -/
theorem dropHolder_singleton {e : ResourceEntry} {h : Holder} (he : e.holders = [h]) :
    e.dropHolder h.station = { e with state := .free, holders := [] } := by
  simp [ResourceEntry.dropHolder, he]

/-- A FREE resource with one waiter: it is granted (R10, R11). -/
theorem passEntry_single (x : LeaseContext) (r : ResNo) {e : ResourceEntry} {w : Waiter} (hst : e.state = .free) (hw : e.waiters = [w]) :
    x.passEntry r e = ({
      state := if w.mode = .exclusive then .exclusive else .shared, counter := e.counter + 1, waiters := []
      holders := e.holders ++ [x.newHolder w.station (e.counter + 1) w.term] }, x.reportIf w.station (.granted r (e.counter + 1) w.term x.time)) := by
  have hcount : grantCount e.state e.waiters = 1 := by cases hmode : w.mode <;> simp [grantCount, hst, hw, hmode]
  have hstate : grantState e.state e.waiters = if w.mode = .exclusive then .exclusive else .shared := by
    rw [hw] at hcount ⊢
    simp only [grantState, hcount]
    cases hmode : w.mode <;> rfl
  rw [LeaseContext.passEntry, hcount, hstate]
  simp [LeaseContext.grantFirst, hw]

/-- The end of a holding whose pass is known, with no REVOKE queued for it. -/
theorem endHolding_passed {x : LeaseContext} {r : Fin 64} {rep : Replica} {h : Holder} {e : ResourceEntry} {granted : List Report} {p : Station}
    (report : List Report) (hp : h.station = p) (hpass : passedWithout x (BitVec.ofNat 8 r.val) p rep.table[r] = (e, granted)) (hrev : h.revocation ≠ some .queued) :
    x.endHolding (BitVec.ofNat 8 r.val) h report rep = ⟨{ rep with
      table := rep.table.set r e
      counts := rep.counts.set p (rep.counts[p] - 1)
      poolFree := rep.poolFree + (rep.table[r].waiters.length - e.waiters.length) }, report ++ granted, []⟩ := by
  subst hp
  rw [endHolding_resNo, endedAt, hpass, Holder.queuedRevoke, if_neg hrev]

/-- The only holding of a resource goes and nobody waits. -/
theorem passedWithout_alone (x : LeaseContext) (r : ResNo) {e : ResourceEntry} {h : Holder} {p : Station} (he : e.holders = [h]) (hp : h.station = p)
    (hw : e.waiters = []) : passedWithout x r p e = ({ e with state := .free, holders := [] }, []) := by
  subst hp
  rw [passedWithout, dropHolder_singleton he]
  refine passEntry_of_none ?_
  simp only [hw]
  rfl

/-- Settles O41: the REVOKE ends the only holding, and its report the HELD slot. -/
theorem revokedHoldingIsLost : Obligations.RevokedHoldingIsLost := by
  intro s rest p stamp r h i no hd hon hr e he hst hrev hw hslot hheld told
  obtain ⟨hdel, -, honline, hlive, hm⟩ := hd
  let x := s.leaseContext stamp
  obtain ⟨-, hres⟩ := findSlot_spec hslot
  have hvalid : x.valid (s.isOnline p) no = true := valid_eq_true ((isOnline_eq_true_iff s p).mpr hon) hr
  have hpool : s.replica.poolFree + (e.waiters.length - e.waiters.length) = s.replica.poolFree := by rw [Nat.sub_self, Nat.add_zero]
  have hout : x.applyRevoke p (s.isOnline p) false no s.me h.grant s.replica = ⟨{ s.replica with
      table := s.replica.table.set r { e with state := .free, holders := [] }
      counts := s.replica.counts.set s.me (s.replica.counts[s.me] - 1)
      poolFree := s.replica.poolFree }, [.revoked no h.grant], []⟩ := by
    have hended := endHolding_passed (x := x) [.revoked no h.grant] hst (passedWithout_alone x no he hst hw) (by simp [hrev])
    rw [hpool] at hended
    rw [applyRevoke_matching hvalid (holder?_singleton he hst)]
    exact (congrArg (x.endHolding no h · s.replica) (reportIf_me x _)).trans hended
  refine exec_settles hdel honline hlive hm (.inr (.inr (.inr (.inr rfl)))) hout rfl (fun _ h => by simp at h) (told := [told]) fun rep => ?_
  refine (held_revoked (s := arrivedWith s _ rest rep) hslot rfl hheld h.grant).trans ?_
  exact congrArg (fun e => moved _ i Slot.clear [e]) (event_at hres _ _ _ _ _)

/-! ## Own lease frames, and a grant to this station's waiting claim (R40, R41, R46, R50, R53) -/

section
variable {x : LeaseContext} {online : Bool} {r : Fin 64} {rep : Replica} {h : Holder} {term : Word16}

/-- The own CLAIM of a FREE resource without any entry. -/
theorem applyClaim_mine {m : Mode} (noWait : Bool) (ho : online = true) (hr : r.val < x.config.resourceCount) (hterm : termOk x.config term = true)
    (hst : rep.table[r].state = .free) (hh : rep.table[r].holders = []) (hw : rep.table[r].waiters = []) (hcount : rep.counts[x.me] < 8) :
    x.applyClaim x.me online (BitVec.ofNat 8 r.val) noWait m.code term rep = ⟨{ rep with
      table := rep.table.set r {
        state := if m = .exclusive then .exclusive else .shared, counter := rep.table[r].counter + 1, waiters := []
        holders := [x.newHolder x.me (rep.table[r].counter + 1) term] }
      counts := rep.counts.set x.me (rep.counts[x.me] + 1), poolFree := rep.poolFree },
      [.granted (BitVec.ofNat 8 r.val) (rep.table[r].counter + 1) term x.time], []⟩ := by
  rw [applyClaim_valid noWait ho hr hterm (by rw [hh]; exact List.forall_mem_nil _) (by rw [hw]; exact List.forall_mem_nil _) hcount, if_pos (grantable_of_empty hw (.inl hst)),
    claimGranted_resNo hw (.inl hst), reportIf_me, claimedAt, claimedEntry, hh, hw]
  rfl

/-- A DROP of the only holding of a resource where nobody waits. -/
theorem applyDrop_alone {p : Station} (hvalid : x.valid online (BitVec.ofNat 8 r.val) = true) (hh : rep.table[r].holders = [h]) (hp : h.station = p)
    (hrev : h.revocation ≠ some .queued) (hw : rep.table[r].waiters = []) :
    x.applyDrop p online (BitVec.ofNat 8 r.val) h.grant rep = ⟨{ rep with
      table := rep.table.set r { rep.table[r] with state := .free, holders := [] }
      counts := rep.counts.set p (rep.counts[p] - 1), poolFree := rep.poolFree },
      x.reportIf p (.dropApplied (BitVec.ofNat 8 r.val) h.grant), []⟩ := by
  have hended := endHolding_passed (x := x) (x.reportIf p (.dropApplied (BitVec.ofNat 8 r.val) h.grant)) hp
    (passedWithout_alone x (BitVec.ofNat 8 r.val) hh hp hw) hrev
  rw [Nat.sub_self, Nat.add_zero, List.append_nil] at hended
  rw [applyDrop_matching hvalid (holder?_singleton hh hp), hended]

/-- A peer's DROP of the only holding of a resource where this station alone waits. -/
theorem applyDrop_grantsMine {p : Station} {w : Waiter} (hvalid : x.valid online (BitVec.ofNat 8 r.val) = true) (hpeer : p ≠ x.me)
    (hh : rep.table[r].holders = [h]) (hp : h.station = p) (hrev : h.revocation ≠ some .queued) (hw : rep.table[r].waiters = [w]) (hme : w.station = x.me) :
    x.applyDrop p online (BitVec.ofNat 8 r.val) h.grant rep = ⟨{ rep with
      table := rep.table.set r {
        state := if w.mode = .exclusive then .exclusive else .shared, counter := rep.table[r].counter + 1, waiters := []
        holders := [x.newHolder x.me (rep.table[r].counter + 1) w.term] }
      counts := rep.counts.set p (rep.counts[p] - 1), poolFree := rep.poolFree + 1 },
      [.granted (BitVec.ofNat 8 r.val) (rep.table[r].counter + 1) w.term x.time], []⟩ := by
  have hpass : passedWithout x (BitVec.ofNat 8 r.val) p rep.table[r] = ({
      state := if w.mode = .exclusive then .exclusive else .shared, counter := rep.table[r].counter + 1, waiters := []
      holders := [x.newHolder x.me (rep.table[r].counter + 1) w.term] },
      [.granted (BitVec.ofNat 8 r.val) (rep.table[r].counter + 1) w.term x.time]) := by
    rw [passedWithout, ← hp, dropHolder_singleton hh, passEntry_single x _ (e := { rep.table[r] with state := .free, holders := [] }) rfl hw, hme, reportIf_me]
    rfl
  rw [applyDrop_matching hvalid (holder?_singleton hh hp), endHolding_passed _ hp hpass hrev, LeaseContext.reportIf, if_neg hpeer, hw]
  rfl

/-- The own EXTEND of this station's only holding of a resource. -/
theorem applyExtend_mine {before after : List Holder} (hvalid : x.valid online (BitVec.ofNat 8 r.val) = true) (hterm : termOk x.config term = true)
    (hh : rep.table[r].holders = before ++ h :: after) (hme : h.station = x.me) (hrev : h.revocation = none)
    (hothers : ∀ k ∈ before ++ after, k.station ≠ x.me) :
    x.applyExtend x.me online (BitVec.ofNat 8 r.val) h.grant term rep = ⟨{ rep with
      table := rep.table.set r { rep.table[r] with
        counter := rep.table[r].counter + 1, holders := before ++ x.newHolder x.me (rep.table[r].counter + 1) term :: after }
      counts := rep.counts, poolFree := rep.poolFree },
      [.extendApplied (BitVec.ofNat 8 r.val) (rep.table[r].counter + 1) term x.time], []⟩ := by
  have hrenewed := renewHolders_split x (rep.table[r].counter + 1) term hme hothers
  rw [← hh] at hrenewed
  rw [applyExtend_matching hvalid hterm (holder?_split hh hme hothers), reportIf_me, Holder.queuedRevoke, hrev, renewedAt, hrenewed]
  rfl

/-- The own WITHDRAW of a wait entry, in a wait list where this station waits once or more. -/
theorem applyWithdraw_mine (hvalid : x.valid online (BitVec.ofNat 8 r.val) = true) (hw : ∃ w ∈ rep.table[r].waiters, w.station = x.me) :
    x.applyWithdraw x.me online (BitVec.ofNat 8 r.val) rep
      = ⟨withdrawnAt x rep r x.me, [.withdrawFromWait (BitVec.ofNat 8 r.val)], []⟩ := by
  have hreports : (x.passEntry (BitVec.ofNat 8 r.val) (rep.table[r].dropWaiter x.me)).2 = [] :=
    passEntry_reports _ fun w hw => by simpa using (List.mem_filter.mp hw).2
  rw [applyWithdraw_waiter hvalid hw, hreports, reportIf_me]
  rfl

end

/-- Settles O40: each frame's Lease Table, then the slot at its one report. -/
theorem applicationsSettleTheSlot : Obligations.ApplicationsSettleTheSlot := by
  rintro s rest ⟨sender, frame, stamp, own⟩ r i no e sl hdel hst hlive hm hr hon hslot lead selfExpiry deadline mine event marker settled awaited counts
  let x := s.leaseContext stamp
  obtain ⟨-, hres⟩ := findSlot_spec hslot
  have hvalid : x.valid (s.isOnline sender) no = true := valid_eq_true ((isOnline_eq_true_iff s sender).mpr hon) hr
  have hunmarked : Unmarked e.holders := (marked_eq_nil_iff _).mp hm r
  have hevent (k : EventKind) (tag : Byte) (g : Word16) (detail : Byte) : sl.event k tag g detail 0 = event k tag g detail := event_at hres _ _ _ _ _
  have hmine (g term : Word16) : x.newHolder x.me g term = mine g term := newHolder_mine x g term
  have hunmarked_mine (g term : Word16) (before after : List Holder) (h : Unmarked (before ++ after)) : Unmarked (before ++ mine g term :: after) := by
    intro k hk
    obtain hk | rfl | hk := List.mem_append.mp hk |>.imp_right List.mem_cons.mp
    · exact h k (List.mem_append_left _ hk)
    · simp [mine]
    · exact h k (List.mem_append_right _ hk)
  refine ⟨fun hown hme => ?_, ?_⟩
  · obtain rfl : own = true := hown
    obtain rfl : sender = s.me := hme
    refine ⟨?_, ?_, ?_, ?_⟩
    · intro noWait m term hf ht0 ht hfree hh hw hcount hsending hnone
      obtain rfl : frame = _ := hf
      have hout := applyClaim_mine (x := x) (m := m) noWait ((isOnline_eq_true_iff s s.me).mpr hon) hr (termOk_eq_true ht0 ht) hfree hh hw hcount
      rw [hmine] at hout
      refine exec_settles hdel hst hlive hm (.inl rfl) hout rfl (hunmarked_mine _ _ [] [] (List.forall_mem_nil _)) fun rep => ?_
      refine (sending_reports (s := arrivedWith s _ rest rep) hslot rfl hsending (cancelPending_of_none hnone) _ term stamp 0).1.trans ?_
      exact congrArg (fun e => moved _ i _ [e]) (hevent _ _ _ _)
    · intro h tag hf hh hmine_h hrev hw hreleasing hcommand hgrant
      obtain rfl : frame = _ := hf
      have hout := applyDrop_alone (x := x) hvalid hh hmine_h (by simp [hrev]) hw
      rw [show x.reportIf s.me _ = _ from reportIf_me x _] at hout
      refine exec_settles hdel hst hlive hm (.inr (.inl rfl)) hout rfl (List.forall_mem_nil _) fun rep => ?_
      rw [claimReport_releasing (s := arrivedWith s _ rest rep) hslot rfl hreleasing _ rfl]
      refine (endSlot_eq _ i _).trans (congrArg (fun e => moved _ i _ [e]) ?_)
      exact (hevent _ _ _ _).trans (congrArg (event .released · h.grant 1) (commandTag_of_command hcommand))
    · intro h before after term tag hf ht0 ht hh hmine_h hrev hothers hrenewing hcommand
      obtain rfl : frame = _ := hf
      have hout := applyExtend_mine (x := x) hvalid (termOk_eq_true ht0 ht) hh hmine_h hrev hothers
      rw [hmine] at hout
      have hrest : Unmarked (before ++ after) := fun k hk => hunmarked k (by
        rw [hh]
        exact (List.mem_append.mp hk).elim (List.mem_append_left _) fun h => List.mem_append_right _ (List.mem_cons_of_mem _ h))
      refine exec_settles hdel hst hlive hm (.inr (.inr (.inl rfl))) hout rfl (hunmarked_mine _ _ before after hrest) fun rep => ?_
      rw [claimReport_renewing (s := arrivedWith s _ rest rep) hslot rfl hrenewing _ rfl, State.reportRenewing, withGrant_eq, setSlot_place]
      refine congrArg (fun e => moved _ i _ [e]) ?_
      exact (hevent _ _ _ _).trans (congrArg (event .renewed · (e.counter + 1) 0) (commandTag_of_command hcommand))
    · intro tag hf hwaits hahead hwithdrawing hcommand hmarker left passed
      obtain rfl : frame = _ := hf
      have hout := applyWithdraw_mine (x := x) hvalid hwaits
      have hpassed : Unmarked passed.holders := passEntry_unmarked (x := x) no (e := e.dropWaiter s.me) hunmarked fun w hw => by
        by_cases hw' : w.station = s.me
        · exact .inl hw'
        · exact .inr (hahead w (List.mem_of_mem_filter hw) hw')
      refine exec_settles hdel hst hlive hm (.inr (.inr (.inr (.inl rfl)))) hout rfl hpassed fun rep => ?_
      refine (withdrawing_reports (s := arrivedWith s _ rest rep) hslot rfl hwithdrawing hmarker 0 0 0).2.1.trans ?_
      refine congrArg (moved _ i Slot.clear) ?_
      rw [← hevent, ← hevent, ← commandTag_of_command hcommand]
      rfl
  · intro h w hown hpeer hf hh hst_h hrev hw hme hwaiting
    obtain rfl : own = false := hown
    obtain rfl : frame = _ := hf
    have hout := applyDrop_grantsMine (x := x) hvalid hpeer hh hst_h hrev hw hme
    rw [hmine] at hout
    refine exec_settles hdel hst hlive hm (.inr (.inl rfl)) hout rfl (hunmarked_mine _ _ [] [] (List.forall_mem_nil _)) fun rep => ?_
    refine (waiting_granted (s := arrivedWith s _ rest rep) hslot rfl hwaiting _ w.term stamp).trans ?_
    exact congrArg (fun e => moved _ i _ [e]) (hevent _ _ _ _)

end Sys2Proof.OwnLeases
end

section
/-! PROOF. The departure of a peer (R21, R90, R91, R92): what the removals and the grant passes leave, then the frame. -/

namespace Sys2Proof.Departures

/-! The proofs here are elaborated one after another: side by side, each costs a thread, and the threads of the whole text share one memory limit. -/

set_option Elab.async false

open Sys2Proof.Machine
open Sys2Proof.GroupState
open Sys2Proof.LeaseFrames
open Sys2Proof.IgnoredFrames
open Sys2Proof.AppliedLeases

/-! ## Wait entries that return to the pool (R4) -/

/-- A Lease Table. -/
abbrev Table := Vector ResourceEntry 64

/-- How many wait entries leave the wait lists between two Lease Tables. -/
def freed (a b : Table) : Nat := ((List.finRange 64).map (fun r => a[r].waiters.length - b[r].waiters.length)).sum

/-- No wait list has grown. -/
def Shrinks (a b : Table) : Prop := ∀ r : Fin 64, b[r].waiters.length ≤ a[r].waiters.length

theorem Shrinks.refl (a : Table) : Shrinks a a := fun _ => le_rfl

theorem Shrinks.trans {a b c : Table} (hab : Shrinks a b) (hbc : Shrinks b c) : Shrinks a c := fun r => (hbc r).trans (hab r)

theorem freed_self (a : Table) : freed a a = 0 := by simp [freed]

theorem freed_trans {a b c : Table} (hab : Shrinks a b) (hbc : Shrinks b c) : freed a b + freed b c = freed a c := by
  rw [freed, freed, freed, ← List.sum_map_add]
  refine congrArg List.sum (List.map_congr_left fun r _ => ?_)
  have h1 := hab r
  have h2 := hbc r
  omega

theorem getElem_set_fin (a : Table) (r k : Fin 64) (e : ResourceEntry) : (a.set r e)[k] = if k = r then e else a[k] := by
  by_cases hk : k = r
  · subst hk; simp
  · have hne : r.val ≠ k.val := fun h => hk (Fin.ext h.symm)
    simp [hk, hne]

theorem freed_set (a : Table) (r : Fin 64) (e : ResourceEntry) : freed a (a.set r e) = a[r].waiters.length - e.waiters.length := by
  rw [freed, ← Fin.sum_univ_def, Finset.sum_eq_single r]
  · rw [getElem_set_fin, if_pos rfl]
  · intro k _ hk
    rw [getElem_set_fin, if_neg hk, Nat.sub_self]
  · exact fun h => absurd (Finset.mem_univ r) h

theorem shrinks_set {a : Table} {r : Fin 64} {e : ResourceEntry} (h : e.waiters.length ≤ a[r].waiters.length) : Shrinks a (a.set r e) := by
  intro k
  rw [getElem_set_fin]
  split
  · rename_i hk; subst hk; exact h
  · exact le_rfl

/-! ## The grant passes (R10, R11, R21) -/

theorem passEntry_waiters (x : LeaseContext) (r : ResNo) (e : ResourceEntry) : (x.passEntry r e).1.waiters <:+ e.waiters := by
  rw [passEntry_eq]
  exact List.drop_suffix _ _

/-- The Lease Table after a grant pass. -/
def passedTable (x : LeaseContext) (r : Fin 64) (a : Table) : Table := a.set r (x.passEntry (BitVec.ofNat 8 r.val) a[r]).1

theorem shrinks_passedTable (x : LeaseContext) (r : Fin 64) (a : Table) : Shrinks a (passedTable x r a) :=
  shrinks_set (passEntry_waiters x _ _).length_le

theorem grantPass_passed (x : LeaseContext) (r : Fin 64) (rep : Replica) :
    x.grantPass (BitVec.ofNat 8 r.val) rep = ({ rep with
      table := passedTable x r rep.table, poolFree := rep.poolFree + freed rep.table (passedTable x r rep.table) },
      (x.passEntry (BitVec.ofNat 8 r.val) rep.table[r]).2) := by
  rw [grantPass_resNo, passedTable, freed_set]

/-- Grant passes on several resources: each entry named is passed once, and the grants return wait entries to the pool. -/
theorem passes_spec (x : LeaseContext) {rs : List Nat} (hnodup : rs.Nodup) (hlt : ∀ r ∈ rs, r < 64) (rep : Replica) :
    (∀ k : Fin 64, (x.passes rs rep).1.table[k] = if k.val ∈ rs then (x.passEntry (BitVec.ofNat 8 k.val) rep.table[k]).1 else rep.table[k])
      ∧ Shrinks rep.table (x.passes rs rep).1.table
      ∧ (x.passes rs rep).1 = { rep with
          table := (x.passes rs rep).1.table, poolFree := rep.poolFree + freed rep.table (x.passes rs rep).1.table } := by
  induction rs generalizing rep with
  | nil => exact ⟨fun k => by simp [LeaseContext.passes], Shrinks.refl _, by simp [LeaseContext.passes, freed_self]⟩
  | cons n rs ih =>
    obtain ⟨hnot, hnodup⟩ := List.nodup_cons.mp hnodup
    let r : Fin 64 := ⟨n, hlt n List.mem_cons_self⟩
    let first : Replica := (x.grantPass (BitVec.ofNat 8 n) rep).1
    have hfirst : first = { rep with
        table := passedTable x r rep.table, poolFree := rep.poolFree + freed rep.table (passedTable x r rep.table) } :=
      congrArg Prod.fst (grantPass_passed x r rep)
    have hpasses : (x.passes (n :: rs) rep).1 = (x.passes rs first).1 := rfl
    obtain ⟨hentry, hshrinks, hrest⟩ := ih hnodup (fun k hk => hlt k (List.mem_cons_of_mem n hk)) first
    have htable : first.table = passedTable x r rep.table := congrArg Replica.table hfirst
    rw [htable] at hentry hshrinks hrest
    rw [hpasses]
    refine ⟨fun k => ?_, (shrinks_passedTable x r rep.table).trans hshrinks, ?_⟩
    · rw [hentry k, passedTable, getElem_set_fin]
      by_cases hk : k = r
      · subst hk
        rw [if_neg hnot, if_pos rfl, if_pos List.mem_cons_self]
      · have hne : k.val ≠ n := fun h => hk (Fin.ext h)
        rw [if_neg hk]
        exact if_congr (by simp [hne]) rfl rfl
    · rw [← freed_trans (shrinks_passedTable x r rep.table) hshrinks, ← Nat.add_assoc]
      refine hrest.trans ?_
      rw [hfirst]

/-- Grant passes report nothing where this station waits nowhere (R9). -/
theorem passes_reports {x : LeaseContext} (rs : List Nat) {rep : Replica} (hw : ∀ k : Fin 64, ∀ w ∈ rep.table[k].waiters, w.station ≠ x.me)
    (hlt : ∀ r ∈ rs, r < 64) : (x.passes rs rep).2 = [] := by
  induction rs generalizing rep with
  | nil => rfl
  | cons n rs ih =>
    let r : Fin 64 := ⟨n, hlt n List.mem_cons_self⟩
    have hpass := grantPass_passed x r rep
    have hfirst : (x.grantPass (BitVec.ofNat 8 n) rep).2 = [] := (congrArg Prod.snd hpass).trans (passEntry_reports _ (hw r))
    have hrest : (x.passes rs (x.grantPass (BitVec.ofNat 8 n) rep).1).2 = [] := by
      refine ih (fun k w hmem => ?_) fun k hk => hlt k (List.mem_cons_of_mem n hk)
      rw [show x.grantPass (BitVec.ofNat 8 n) rep = _ from hpass, passedTable, getElem_set_fin] at hmem
      split at hmem
      · exact hw r w ((passEntry_waiters x _ _).mem hmem)
      · exact hw k w hmem
    simp only [LeaseContext.passes, hfirst, hrest, List.append_nil]

/-! ## The removals (R21) -/

theorem names_iff (e : ResourceEntry) (q : Station) : e.names q = true ↔ (∃ h ∈ e.holders, h.station = q) ∨ ∃ w ∈ e.waiters, w.station = q := by
  simp [ResourceEntry.names, HostTransactions.holder?_isSome, HostTransactions.waiter?_isSome]

theorem dropStation_named {e : ResourceEntry} {q : Station} (h : e.names q = true) : e.dropStation q = { e with
    holders := e.holders.filter (fun h => h.station != q), waiters := e.waiters.filter (fun w => w.station != q)
    state := if e.holders.filter (fun h => h.station != q) = [] then .free else e.state } := by
  rw [ResourceEntry.dropStation, if_pos h, dropHolder_eq]
  rfl

theorem dropStation_not_named {e : ResourceEntry} {q : Station} (h : e.names q = false) : e.dropStation q = e := if_neg (Bool.eq_false_iff.mp h)

theorem dropStation_waiters (e : ResourceEntry) (q : Station) : (e.dropStation q).waiters = e.waiters.filter (fun w => w.station != q) := by
  cases h : e.names q
  · rw [dropStation_not_named h]
    refine (List.filter_eq_self.mpr fun w hw => bne_iff_ne.mpr fun hq => ?_).symm
    exact Bool.eq_false_iff.mp h ((names_iff e q).mpr (.inr ⟨w, hw, hq⟩))
  · rw [dropStation_named h]

theorem dropStation_holders (e : ResourceEntry) (q : Station) : (e.dropStation q).holders ⊆ e.holders := by
  cases h : e.names q
  · rw [dropStation_not_named h]
    exact List.Subset.refl _
  · rw [dropStation_named h]
    exact List.filter_subset_self _

/-- The Lease Table after the removals. -/
def removedTable (q : Station) (a : Table) : Table := a.map (fun e => e.dropStation q)

theorem removedTable_get (q : Station) (a : Table) (r : Fin 64) : (removedTable q a)[r] = a[r].dropStation q := by simp [removedTable]

theorem shrinks_removedTable (q : Station) (a : Table) : Shrinks a (removedTable q a) := fun r => by
  rw [removedTable_get, dropStation_waiters]
  exact List.length_filter_le _ _

/-- The wait entries of a station, counted as those that go with it. -/
theorem freed_removedTable (q : Station) (a : Table) :
    (a.toList.map (fun e => (e.waiters.filter (fun w => w.station == q)).length)).sum = freed a (removedTable q a) := by
  have hlist : a.toList = (List.finRange 64).map (fun r => a[r]) := List.ext_getElem (by simp) fun i _ _ => by simp
  rw [hlist, List.map_map, freed]
  refine congrArg List.sum (List.map_congr_left fun r _ => ?_)
  have hsplit := List.length_eq_length_filter_add (l := a[r].waiters) (fun w => w.station == q)
  rw [removedTable_get, dropStation_waiters]
  simp only [Function.comp_def, bne]
  omega

theorem removeStation_eq (rep : Replica) (q : Station) : rep.removeStation q = { rep with
    table := removedTable q rep.table, counts := rep.counts.set q 0, poolFree := rep.poolFree + freed rep.table (removedTable q rep.table) } := by
  rw [Replica.removeStation, freed_removedTable]
  rfl

theorem mem_resourcesOf (rep : Replica) (q : Station) (r : Fin 64) : r.val ∈ rep.resourcesOf q ↔ rep.table[r].names q = true := by
  simp [Replica.resourcesOf]

/-! ## The lease part of a departure (R21) -/

/-- The Lease Table after a departure. -/
def departedTable (x : LeaseContext) (q : Station) (rep : Replica) : Table := (x.passes (rep.resourcesOf q) (rep.removeStation q)).1.table

theorem resourcesOf_nodup (rep : Replica) (q : Station) : (rep.resourcesOf q).Nodup := List.nodup_range.filter _

theorem resourcesOf_lt {rep : Replica} {q : Station} {r : Nat} (h : r ∈ rep.resourcesOf q) : r < 64 := List.mem_range.mp (List.mem_filter.mp h).1

theorem departedTable_spec (x : LeaseContext) (q : Station) (rep : Replica) :
    (∀ k : Fin 64, (departedTable x q rep)[k]
        = if k.val ∈ rep.resourcesOf q then (x.passEntry (BitVec.ofNat 8 k.val) (removedTable q rep.table)[k]).1 else (removedTable q rep.table)[k])
      ∧ Shrinks (removedTable q rep.table) (departedTable x q rep)
      ∧ (x.passes (rep.resourcesOf q) (rep.removeStation q)).1 = { rep with
          table := departedTable x q rep, counts := rep.counts.set q 0
          poolFree := rep.poolFree + freed rep.table (removedTable q rep.table) + freed (removedTable q rep.table) (departedTable x q rep) } := by
  have hspec := passes_spec x (resourcesOf_nodup rep q) (fun _ => resourcesOf_lt) (rep.removeStation q)
  unfold departedTable
  rw [removeStation_eq] at hspec ⊢
  exact hspec

theorem departedTable_get (x : LeaseContext) (q : Station) (rep : Replica) (r : Fin 64) :
    (departedTable x q rep)[r] = if rep.table[r].names q then (x.passEntry (BitVec.ofNat 8 r.val) (rep.table[r].dropStation q)).1 else rep.table[r] := by
  obtain ⟨hentry, -, -⟩ := departedTable_spec x q rep
  rw [hentry r, removedTable_get]
  cases h : rep.table[r].names q
  · rw [if_neg (by rw [mem_resourcesOf, h]; exact Bool.false_ne_true), dropStation_not_named h]
    rfl
  · rw [if_pos ((mem_resourcesOf rep q r).mpr h)]
    rfl

/-- The departure of a peer for which this station has no REVOKE queued, with no grant to this station. -/
theorem applyDeparture_eq {x : LeaseContext} {q : Station} {rep : Replica} (hw : ∀ r : Fin 64, ∀ w ∈ rep.table[r].waiters, w.station ≠ x.me)
    (hrev : rep.queuedRevokesOf q = []) :
    x.applyDeparture q rep = ⟨{ rep with
      table := departedTable x q rep, counts := rep.counts.set q 0
      poolFree := rep.poolFree + freed rep.table (departedTable x q rep) }, [], []⟩ := by
  obtain ⟨-, hshrinks, hrest⟩ := departedTable_spec x q rep
  have hreports : (x.passes (rep.resourcesOf q) (rep.removeStation q)).2 = [] := by
    refine passes_reports _ (fun r w hmem => ?_) fun _ => resourcesOf_lt
    rw [removeStation_eq, removedTable_get, dropStation_waiters] at hmem
    exact hw r w (List.mem_of_mem_filter hmem)
  have hfreed := freed_trans (shrinks_removedTable q rep.table) hshrinks
  rw [LeaseContext.applyDeparture, hreports, hrev, hrest, Nat.add_assoc, hfreed]

theorem departedTable_unmarked {x : LeaseContext} {q : Station} {rep : Replica} (hm : rep.marked = [])
    (hw : ∀ r : Fin 64, ∀ w ∈ rep.table[r].waiters, Ahead x w) (r : Fin 64) : Unmarked (departedTable x q rep)[r].holders := by
  have hr := (marked_eq_nil_iff rep).mp hm r
  rw [departedTable_get]
  split
  · refine passEntry_unmarked _ (fun h hh => hr h (dropStation_holders _ q hh)) fun w hmem => .inr (hw r w ?_)
    rw [dropStation_waiters] at hmem
    exact List.mem_of_mem_filter hmem
  · exact hr

/-! ## The frame (R90, R91, R92) -/

/-- The state once a peer's entry is ABSENT and PEER_LEFT is told, before its lease entries go. -/
def departing (s : State) (q : Station) (host : HostPort) : State :=
  { s with host := host, member := { s.member with roster := s.member.roster.set q (s.member.roster[q]).depart } }

/-- Who is told what: PEER_LEFT where the peer was ONLINE (R92). -/
def leftHost (s : State) (q : Station) (detail : Byte) : HostPort :=
  if (s.member.roster[q]).state = .online then s.host.answer {
    kind := .peerLeft, tag := 0, subject := stationByte q, grant := 0, detail := detail
    count := BitVec.ofNat 8 ((List.finRange 16).filter (fun x => x ≠ s.me ∧ x ≠ q ∧ (s.member.roster[x]).state = .online)).length } else s.host

theorem onlinePeers_departed (s : State) (q : Station) (host : HostPort) :
    (departing s q host).onlinePeers = ((List.finRange 16).filter (fun x => x ≠ s.me ∧ x ≠ q ∧ (s.member.roster[x]).state = .online)).length := by
  rw [RosterPresence.onlinePeers_eq]
  refine congrArg List.length (List.filter_congr fun k _ => ?_)
  by_cases hk : k = q
  · subst hk; simp [departing, RosterEntry.depart]
  · have hne : q.val ≠ k.val := fun h => hk (Fin.ext h.symm)
    have hentry : (departing s q host).member.roster[k] = s.member.roster[k] := by simp [departing, hne]
    rw [hentry, show (departing s q host).me = s.me from rfl]
    simp [hk]

theorem closeAdmission_of_none {s : State} (h : s.member.admission = none) (p : Station) : s.closeAdmission p = s := by
  simp only [State.closeAdmission, h]

theorem peerGone_eq {s : State} {d : Delivered} {q : Station} (detail : Byte) (hadm : s.member.admission = none) :
    s.peerGone d q detail false
      = (departing s q (leftHost s q detail)).takeLease ((s.leaseContext d.stamp).applyDeparture q s.replica) := by
  have hclosed : (s.setPeer q (s.peer q).depart).closeAdmission q = departing s q s.host :=
    closeAdmission_of_none (s := departing s q s.host) hadm q
  have htold : (if (decide ((s.peer q).state = .online) && !false) = true then
        (departing s q s.host).placeAtOnce ((departing s q s.host).peerLeft q detail)
      else departing s q s.host) = departing s q (leftHost s q detail) := by
    rw [Bool.not_false, Bool.and_true, State.peerLeft, onlinePeers_departed, leftHost, State.peer]
    by_cases hon : (s.member.roster[q]).state = .online
    · rw [if_pos hon, if_pos (decide_eq_true hon)]
      rfl
    · rw [if_neg hon, if_neg (by simpa using hon)]
  simp only [State.peerGone, hclosed, htold]
  rfl

/-- A DEPART of this station for a station whose departure state is NONE is withdrawn at another's DEPART, and only so (R90, R91). -/
theorem withdrawDepart_of_notQueued {s : State} {q : Station} (h : (s.peer q).departQueued = false) : s.withdrawDepart q = s := by
  rw [State.withdrawDepart, if_neg (Bool.eq_false_iff.mp h)]

theorem peer_departing (s : State) (q : Station) (host : HostPort) : (departing s q host).peer q = (s.member.roster[q]).depart := by
  simp [State.peer, departing]

/-- An entry becoming ABSENT with departure state NONE keeps its incarnation alone (R79, R80). -/
theorem depart_eq {e : RosterEntry} (h : e.departQueued = false) : e.depart = { RosterEntry.clear with incarnation := e.incarnation } := by
  rw [RosterEntry.depart, h]
  rfl

/-- Settles O43: the roster entry and its event, the replica after the removals and passes, then what each frame withdraws. -/
theorem departureRemovesThePeer : Obligations.DepartureRemovesThePeer := by
  intro s rest p q f stamp hd hp hq hf e hpresent hnone hadm hrev hwaiters absent online told named removed
  obtain ⟨-, -, -, hlive, hm⟩ := id hd
  let x := s.leaseContext stamp
  let d : Delivered := { sender := p, frame := f, stamp := stamp, own := false }
  let rep : Replica := { s.replica with
    table := departedTable x q s.replica, counts := s.replica.counts.set q 0
    poolFree := s.replica.poolFree + freed s.replica.table (departedTable x q s.replica) }
  have hmarked : rep.marked = [] := (marked_eq_nil_iff rep).mpr (departedTable_unmarked hm fun r w hw => (hwaiters r w hw).2)
  have hnamed (k : Fin 64) : named s.replica.table[k] ↔ s.replica.table[k].names q = true := (names_iff _ q).symm
  refine ⟨departedTable x q s.replica, fun k => ⟨fun h => ?_, fun h => ?_⟩, ?_⟩
  · rw [departedTable_get, if_pos ((hnamed k).mp h), dropStation_named ((hnamed k).mp h)]
  · rw [departedTable_get, if_neg (mt (hnamed k).mpr h)]
  let gone (detail : Byte) : State := { departing (handed s rest) q (leftHost s q detail) with replica := rep }
  have hgone (detail : Byte) : (handed s rest).peerGone d q detail false = gone detail := by
    rw [peerGone_eq (s := handed s rest) detail hadm]
    exact congrArg (departing (handed s rest) q (leftHost s q detail)).takeLease (applyDeparture_eq (x := x) (fun r w hw => (hwaiters r w hw).1) hrev)
  have hquiet (detail : Byte) : ((gone detail).peer q).departQueued = false := 
    (congrArg RosterEntry.departQueued (peer_departing (handed s rest) q (leftHost s q detail))).trans hnone
  have habsent : (s.member.roster[q]).depart = absent := depart_eq hnone
  have hthere : ((handed s rest).peer q).present = true := bne_iff_ne.mpr hpresent
  obtain ⟨rfl, rfl⟩ | ⟨rfl, hon⟩ := hf
  · have heff : (handed s rest).liveEffects d false = gone detailQuit := by
      have hquit : (handed s rest).liveEffects d false = ((handed s rest).peerGone d q detailQuit false).withdrawDepart q :=
        (if_neg hp).trans (if_pos hthere)
      rw [hquit, hgone, withdrawDepart_of_notQueued (hquiet _)]
    refine (exec_peer hd Frame.noConfusion).trans (congrArg Host.Outcome.next ?_)
    rw [applyLive_of_effects heff hlive hmarked, ← habsent]
    rfl
  · have heff : (handed s rest).liveEffects d false = { gone detailDepart with tx := (s.tx.withdraw (.depart q)).2 } := by
      have honline : (handed s rest).isOnline p = true := (isOnline_eq_true_iff s p).mpr hon
      have hdepart : (handed s rest).liveEffects d false = ((handed s rest).peerGone d q detailDepart false).settleDepart d q :=
        (if_neg (by simpa using honline)).trans (if_pos hthere)
      rw [hdepart, hgone, settleDepart_of_notQueued rfl (hquiet _)]
      rfl
    refine (exec_peer hd fun h => hq (Frame.depart.inj h)).trans (congrArg Host.Outcome.next ?_)
    rw [applyLive_of_effects heff hlive hmarked, ← habsent]
    rfl

end Sys2Proof.Departures
end
